-- ==== Sys2Proof/Word.lean ====
section
/-! DEFINITION. The word types of CRC32FE and the two shapes in which an operation reaches it: a bus access
(rule R41, with the size the host used) and an encoded operation (a row of the bus table or a command word,
rules R41 and R44). -/

namespace Sys2Proof

/-- A `u8`: a frame byte, the operand `IMM8`, `LEN` (rule R7). -/
abbrev Byte := BitVec 8

/-- A 16-bit sample pattern; the block never interprets its sign (rule R8). -/
abbrev Sample := BitVec 16

/-- A `u32`: a register word, `wdata`, `rdata`, a command word, `CRC_STATE` (rule R7). -/
abbrev Word := BitVec 32

/-- A byte offset in the register window of 256 offsets (rule R28). -/
abbrev Offset := BitVec 8

/-- The 9-bit bus key `{dir, offset}` of rule R41. -/
abbrev BusKey := BitVec 9

/-- The `dir` field of an access; `wdata` is absent for a read (rule R41). -/
inductive Direction where
  | read
  | write (wdata : Word)
deriving DecidableEq, Repr

/-- One host bus access `(dir, offset, size, wdata)` as the bus delivers it, before any check (rule R41).
`size` is in bytes and may be any number, a burst's included (rule R34). -/
structure Access where
  dir : Direction
  offset : Offset
  size : Nat
deriving DecidableEq, Repr

/-- An encoded operation in one of the opcode table's two formats: a 4-byte read or write of a window offset
(format BUS, rule R43), or a command word (format CMD, rule R45). -/
inductive Encoding where
  | read (offset : Offset)
  | write (offset : Offset) (wdata : Word)
  | command (word : Word)
deriving DecidableEq, Repr

end Sys2Proof
end

