-- ==== Sys2Proof/Config.lean ====
section
/-! DEFINITION. The implementation parameters of rule R6. Every one has the value the spec gives it, but for
`BLOCK_BASE`, which the spec leaves OPEN (decision D4) and which is an opaque constant here. -/

namespace Sys2Proof

/-- `MARKER`: byte 0 of a steady-state frame (rule R6). -/
abbrev Config.marker : Byte := 0x7E#8

/-- `PROBE_BYTE` (rule R6). -/
abbrev Config.probeByte : Byte := 0xAA#8

/-- `FRAME_BYTES`: the steady-state frame length with the trailer off (rule R6). -/
abbrev Config.frameBytes : Byte := 23#8

/-- `FRAME_BYTES_CRC`: the frame length with the trailer on (rule R6). -/
abbrev Config.frameBytesCrc : Byte := 27#8

/-- `PROBE_BYTES` (rule R6). -/
abbrev Config.probeBytes : Byte := 1#8

/-- `CRC_SPAN`: how many bytes the trailer covers, bytes 0 to 22 (rule R6, conflict C1). -/
abbrev Config.crcSpan : Nat := 23

/-- The bytes of frame buffer storage, `F[0]` to `F[26]` (rule R6). -/
abbrev Config.bufferBytes : Nat := 27

/-- `CRC_POLY`, the reflected polynomial (rule R6). -/
abbrev Config.crcPoly : Word := 0xEDB88320#32

/-- `CRC_INIT` (rule R6). -/
abbrev Config.crcInit : Word := 0xFFFFFFFF#32

/-- `CRC_XOROUT` (rule R6). -/
abbrev Config.crcXorOut : Word := 0xFFFFFFFF#32

/-- The number of byte offsets in the register window (rule R6). -/
abbrev Config.windowBytes : Nat := 256

/-- Which multiple of 256 the platform chose for the block: OPEN in the spec, so no value of it can be proved
(decision D4; log entry 6). -/
opaque Config.blockPage : Nat

/-- `BLOCK_BASE`, the bus address of offset 0x00: an open parameter, a multiple of 256 (rules R6 and R28). -/
def Config.blockBase : Nat := Config.windowBytes * Config.blockPage

end Sys2Proof
end

