-- ==== Sys2Proof/Syntax.lean ====
section
/-! DEFINITION. The operations of CRC32FE: one constructor per row of the opcode table, in the table's order.
The 44 bus rows of rule R43 come first (a write carries the whole 32-bit `wdata`, as the table says), then the
6 command words of rule R45. Each docstring names the row's mnemonic and the rule that gives its meaning. -/

namespace Sys2Proof

/-- An operation of CRC32FE. Its operands are exactly as wide as the encoding admits, so every term is the
operation of some encoding (`Laws/PerInstr.lean`). -/
inductive Instr where
  /-- RD_CTRL: bus key 0x000 (rule R73). -/
  | rdCtrl
  /-- WR_CTRL: bus key 0x100 (rule R74). -/
  | wrCtrl (wdata : Word)
  /-- RD_FRAME_LEN: bus key 0x004 (rule R75). -/
  | rdFrameLen
  /-- WR_FRAME_LEN: bus key 0x104 (rule R79). -/
  | wrFrameLen (wdata : Word)
  /-- RD_CMD: bus key 0x008 (rule R78). -/
  | rdCmd
  /-- WR_CMD: bus key 0x108 (rule R77). -/
  | wrCmd (wdata : Word)
  /-- RD_ERR: bus key 0x00C (rule R80). -/
  | rdErr
  /-- WR_ERR: bus key 0x10C (rule R81). -/
  | wrErr (wdata : Word)
  /-- RD_ACC_X: bus key 0x010 (rule R82). -/
  | rdAccX
  /-- WR_ACC_X: bus key 0x110 (rule R83). -/
  | wrAccX (wdata : Word)
  /-- RD_ACC_Y: bus key 0x014 (rule R82). -/
  | rdAccY
  /-- WR_ACC_Y: bus key 0x114 (rule R83). -/
  | wrAccY (wdata : Word)
  /-- RD_ACC_Z: bus key 0x018 (rule R82). -/
  | rdAccZ
  /-- WR_ACC_Z: bus key 0x118 (rule R83). -/
  | wrAccZ (wdata : Word)
  /-- RD_GYR_X: bus key 0x01C (rule R82). -/
  | rdGyrX
  /-- WR_GYR_X: bus key 0x11C (rule R83). -/
  | wrGyrX (wdata : Word)
  /-- RD_GYR_Y: bus key 0x020 (rule R82). -/
  | rdGyrY
  /-- WR_GYR_Y: bus key 0x120 (rule R83). -/
  | wrGyrY (wdata : Word)
  /-- RD_GYR_Z: bus key 0x024 (rule R82). -/
  | rdGyrZ
  /-- WR_GYR_Z: bus key 0x124 (rule R83). -/
  | wrGyrZ (wdata : Word)
  /-- RD_SELFTEST: bus key 0x028 (rule R84). -/
  | rdSelftest
  /-- WR_SELFTEST: bus key 0x128 (rule R85). -/
  | wrSelftest (wdata : Word)
  /-- RD_CRC_STATE: bus key 0x030 (rule R68). -/
  | rdCrcState
  /-- WR_CRC_STATE: bus key 0x130 (rule R69). -/
  | wrCrcState (wdata : Word)
  /-- RD_CRC_RESULT: bus key 0x034 (rule R70). -/
  | rdCrcResult
  /-- WR_CRC_RESULT: bus key 0x134 (rule R79). -/
  | wrCrcResult (wdata : Word)
  /-- RD_CRC_DATA8: bus key 0x038 (rule R78). -/
  | rdCrcData8
  /-- WR_CRC_DATA8: bus key 0x138 (rule R66). -/
  | wrCrcData8 (wdata : Word)
  /-- RD_CRC_DATA32: bus key 0x03C (rule R78). -/
  | rdCrcData32
  /-- WR_CRC_DATA32: bus key 0x13C (rule R67). -/
  | wrCrcData32 (wdata : Word)
  /-- RD_FRAME0: bus key 0x040 (rule R76). -/
  | rdFrame0
  /-- WR_FRAME0: bus key 0x140 (rule R79). -/
  | wrFrame0 (wdata : Word)
  /-- RD_FRAME1: bus key 0x044 (rule R76). -/
  | rdFrame1
  /-- WR_FRAME1: bus key 0x144 (rule R79). -/
  | wrFrame1 (wdata : Word)
  /-- RD_FRAME2: bus key 0x048 (rule R76). -/
  | rdFrame2
  /-- WR_FRAME2: bus key 0x148 (rule R79). -/
  | wrFrame2 (wdata : Word)
  /-- RD_FRAME3: bus key 0x04C (rule R76). -/
  | rdFrame3
  /-- WR_FRAME3: bus key 0x14C (rule R79). -/
  | wrFrame3 (wdata : Word)
  /-- RD_FRAME4: bus key 0x050 (rule R76). -/
  | rdFrame4
  /-- WR_FRAME4: bus key 0x150 (rule R79). -/
  | wrFrame4 (wdata : Word)
  /-- RD_FRAME5: bus key 0x054 (rule R76). -/
  | rdFrame5
  /-- WR_FRAME5: bus key 0x154 (rule R79). -/
  | wrFrame5 (wdata : Word)
  /-- RD_FRAME6: bus key 0x058 (rule R76). -/
  | rdFrame6
  /-- WR_FRAME6: bus key 0x158 (rule R79). -/
  | wrFrame6 (wdata : Word)
  /-- NOP: command word 0x00000000, mask 0xFFFFFFFF (rule R57). -/
  | nop
  /-- BUILD: command word 0x00000001, mask 0xFFFFFFFF (rule R51). -/
  | build
  /-- PROBE: command word 0x00000002, mask 0xFFFFFFFF (rule R55). -/
  | probe
  /-- FRAME_CLR: command word 0x00000003, mask 0xFFFFFFFF (rule R56). -/
  | frameClr
  /-- CRC_INIT: command word 0x00000004, mask 0xFFFFFFFF (rule R64). -/
  | crcInit
  /-- CRC_BYTE: command word 0x00000005, mask 0xFFFF00FF (rule R65). -/
  | crcByte (imm8 : Byte)
deriving DecidableEq, Repr

end Sys2Proof
end

