-- ==== Sys2Proof/WellFormed.lean ====
section
/-! DEFINITION. When a raw access and a raw command word are operations of the block at all. An `Instr` needs no
check of its own: its operands are exactly as wide as the encoding admits and every value of them is legal
(rules R46 and R47), so the checks are on what the host sends. The decoder does not call them: it reads the
opcode tables, and `Laws/PerInstr.lean` shows that what every instruction encodes to passes them. -/

namespace Sys2Proof

/-- An offset is aligned when its bits 1:0 are 00 (rule R34). -/
def Offset.aligned (off : Offset) : Bool := off.extractLsb' 0 2 == 0#2

/-- The mapped offsets of rule R29: the aligned ones from 0x00 to 0x58, but for 0x2C (rule R30). -/
def Offset.mapped (off : Offset) : Bool := Offset.aligned off && off != 0x2C#8 && off.toNat ≤ 0x58

/-- An admitted access is exactly 4 bytes wide (rule R34). -/
def Access.sizeOk (a : Access) : Bool := a.size == 4

/-- An access the block performs: 4 bytes at a mapped, aligned offset (rules R30 and R34). -/
def Access.wellFormed (a : Access) : Bool := a.sizeOk && Offset.mapped a.offset

/-- The reserved field of a command word, bits 31:16, must be 0 (rule R44). -/
def commandReservedOk (w : Word) : Bool := w.extractLsb' 16 16 == 0#16

/-- `OP` values 0x06 to 0xFF are reserved (rule R47). -/
def commandOpOk (w : Word) : Bool := (w.extractLsb' 0 8).toNat ≤ 5

/-- `IMM8` must be 0 for every command but CRC_BYTE, whose OP is 0x05 (rule R44). -/
def commandImmOk (w : Word) : Bool := w.extractLsb' 0 8 == 0x05#8 || w.extractLsb' 8 8 == 0#8

/-- A legal command word (rules R44 and R47). -/
def commandWellFormed (w : Word) : Bool := commandReservedOk w && commandOpOk w && commandImmOk w

/-- An encoding that stands for an operation: a mapped offset, or a legal command word. -/
def Encoding.wellFormed : Encoding → Bool
  | .read off => Offset.mapped off
  | .write off _ => Offset.mapped off
  | .command w => commandWellFormed w

end Sys2Proof
end

