-- ==== Sys2Proof/Decode.lean ====
section
/-! DEFINITION. Bus decode (rules R41 to R43), command decode (rules R44 to R47), and the encoder written from the
same tables. Decoding is total: an access that is no operation is rejected by the name of the check it fails, in
the order of rule R91, and a command word that matches no row is illegal. -/

namespace Sys2Proof

/-! ## The command word -/

/-- The field `IMM8` of a command word, `w[15:8]`, used as it stands (rules R44 and R46). -/
def imm8Field (w : Word) : Byte := w.extractLsb' 8 8

/-- A row of the command table: a word `w` selects it when `w and mask = pattern` (rule R45). -/
structure CommandRow where
  pattern : Word
  mask : Word
  instr : Word → Instr

/-- The command table of rule R45. -/
def commandTable : List CommandRow :=
  [⟨0x00000000#32, 0xFFFFFFFF#32, fun _ => .nop⟩,
   ⟨0x00000001#32, 0xFFFFFFFF#32, fun _ => .build⟩,
   ⟨0x00000002#32, 0xFFFFFFFF#32, fun _ => .probe⟩,
   ⟨0x00000003#32, 0xFFFFFFFF#32, fun _ => .frameClr⟩,
   ⟨0x00000004#32, 0xFFFFFFFF#32, fun _ => .crcInit⟩,
   ⟨0x00000005#32, 0xFFFF00FF#32, fun w => .crcByte (imm8Field w)⟩]

/-- `decode_cmd` of rule R45: the one row the word selects, or none for an illegal word (rule R47). -/
def decodeCommand (w : Word) : Option Instr :=
  (commandTable.find? fun r => w &&& r.mask == r.pattern).map fun r => r.instr w

/-! ## The bus transaction -/

/-- A row of the bus table: the key it matches exactly, and the operation it selects (rule R43). -/
structure BusRow where
  key : BusKey
  instr : Word → Instr

/-- The bus rows of CTRL, FRAME_LEN, CMD and ERR (rule R43). -/
def controlRows : List BusRow :=
  [⟨0x000#9, fun _ => .rdCtrl⟩, ⟨0x100#9, .wrCtrl⟩,
   ⟨0x004#9, fun _ => .rdFrameLen⟩, ⟨0x104#9, .wrFrameLen⟩,
   ⟨0x008#9, fun _ => .rdCmd⟩, ⟨0x108#9, .wrCmd⟩,
   ⟨0x00C#9, fun _ => .rdErr⟩, ⟨0x10C#9, .wrErr⟩]

/-- The bus rows of the six sample registers and SELFTEST (rule R43). -/
def sampleRows : List BusRow :=
  [⟨0x010#9, fun _ => .rdAccX⟩, ⟨0x110#9, .wrAccX⟩,
   ⟨0x014#9, fun _ => .rdAccY⟩, ⟨0x114#9, .wrAccY⟩,
   ⟨0x018#9, fun _ => .rdAccZ⟩, ⟨0x118#9, .wrAccZ⟩,
   ⟨0x01C#9, fun _ => .rdGyrX⟩, ⟨0x11C#9, .wrGyrX⟩,
   ⟨0x020#9, fun _ => .rdGyrY⟩, ⟨0x120#9, .wrGyrY⟩,
   ⟨0x024#9, fun _ => .rdGyrZ⟩, ⟨0x124#9, .wrGyrZ⟩,
   ⟨0x028#9, fun _ => .rdSelftest⟩, ⟨0x128#9, .wrSelftest⟩]

/-- The bus rows of CRC_STATE, CRC_RESULT, CRC_DATA8 and CRC_DATA32 (rule R43). -/
def crcRows : List BusRow :=
  [⟨0x030#9, fun _ => .rdCrcState⟩, ⟨0x130#9, .wrCrcState⟩,
   ⟨0x034#9, fun _ => .rdCrcResult⟩, ⟨0x134#9, .wrCrcResult⟩,
   ⟨0x038#9, fun _ => .rdCrcData8⟩, ⟨0x138#9, .wrCrcData8⟩,
   ⟨0x03C#9, fun _ => .rdCrcData32⟩, ⟨0x13C#9, .wrCrcData32⟩]

/-- The bus rows of FRAME0 to FRAME6 (rule R43). -/
def frameRows : List BusRow :=
  [⟨0x040#9, fun _ => .rdFrame0⟩, ⟨0x140#9, .wrFrame0⟩,
   ⟨0x044#9, fun _ => .rdFrame1⟩, ⟨0x144#9, .wrFrame1⟩,
   ⟨0x048#9, fun _ => .rdFrame2⟩, ⟨0x148#9, .wrFrame2⟩,
   ⟨0x04C#9, fun _ => .rdFrame3⟩, ⟨0x14C#9, .wrFrame3⟩,
   ⟨0x050#9, fun _ => .rdFrame4⟩, ⟨0x150#9, .wrFrame4⟩,
   ⟨0x054#9, fun _ => .rdFrame5⟩, ⟨0x154#9, .wrFrame5⟩,
   ⟨0x058#9, fun _ => .rdFrame6⟩, ⟨0x158#9, .wrFrame6⟩]

/-- The bus table of rule R43: 44 rows, one per mapped key. -/
def busTable : List BusRow := controlRows ++ sampleRows ++ crcRows ++ frameRows

/-- The operation a bus key selects, given the written word (rule R43). -/
def decodeKey (key : BusKey) (wdata : Word) : Option Instr :=
  (busTable.find? fun r => r.key == key).map fun r => r.instr wdata

/-- The key of a read: `dir` 0 above the offset (rule R41). -/
def readKey (off : Offset) : BusKey := 0#1 ++ off

/-- The key of a write: `dir` 1 above the offset (rule R41). -/
def writeKey (off : Offset) : BusKey := 1#1 ++ off

/-- The written word; a read has none, and no row of a read key looks at it (rule R41). -/
def Access.wdata (a : Access) : Word :=
  match a.dir with
  | .read => 0#32
  | .write w => w

/-- `{dir, offset}` (rule R41). -/
def Access.key (a : Access) : BusKey :=
  match a.dir with
  | .read => readKey a.offset
  | .write _ => writeKey a.offset

/-- Why an access is no operation of the block, with its offset. Each is the BusError of rule R88; the three names
are the three checks of rule R91. -/
inductive Reject where
  /-- A size other than 4 (rule R34). -/
  | badSize (offset : Offset)
  /-- Bits 1:0 of the offset are not 00 (rule R34). -/
  | misaligned (offset : Offset)
  /-- An aligned offset outside the register map (rule R30). -/
  | unmapped (offset : Offset)
deriving DecidableEq, Repr

/-- The offset a BusError names: `raise BusError(offset)` (rule R42). -/
def Reject.offset : Reject → Offset
  | .badSize off => off
  | .misaligned off => off
  | .unmapped off => off

/-- The row a key selects, or BusError for a key that selects none (rules R42 and R43). -/
def decodeRow (off : Offset) (key : BusKey) (wdata : Word) : Except Reject Instr :=
  match decodeKey key wdata with
  | some i => .ok i
  | none => .error (.unmapped off)

/-- `decode_bus` of rule R42, its checks in the rule's order. -/
def decodeAccess : Access → Except Reject Instr
  | ⟨dir, off, size⟩ =>
    if size != 4 then .error (.badSize off)
    else if off.extractLsb' 0 2 != 0#2 then .error (.misaligned off)
    else
      match dir with
      | .read => decodeRow off (readKey off) 0#32
      | .write w => decodeRow off (writeKey off) w

/-! ## Encodings of the opcode table -/

/-- The bus access that carries an encoding. A command word is carried by the write to CMD that consumes it
(rules R39 and R44). -/
def Encoding.access : Encoding → Access
  | .read off => ⟨.read, off, 4⟩
  | .write off w => ⟨.write w, off, 4⟩
  | .command w => ⟨.write w, 0x08#8, 4⟩

/-- The instruction an encoding of the opcode table stands for, in the encoding's own format: a bus row by its key,
a command row by its word (rules R43 and R45; log entry 9). -/
def decode : Encoding → Option Instr
  | .read off => decodeKey (readKey off) 0#32
  | .write off w => decodeKey (writeKey off) w
  | .command w => decodeCommand w

/-- The encoding of an instruction, from the `match` column of the opcode table (rules R43 and R45). -/
def encode : Instr → Encoding
  | .rdCtrl => .read 0x00#8
  | .wrCtrl w => .write 0x00#8 w
  | .rdFrameLen => .read 0x04#8
  | .wrFrameLen w => .write 0x04#8 w
  | .rdCmd => .read 0x08#8
  | .wrCmd w => .write 0x08#8 w
  | .rdErr => .read 0x0C#8
  | .wrErr w => .write 0x0C#8 w
  | .rdAccX => .read 0x10#8
  | .wrAccX w => .write 0x10#8 w
  | .rdAccY => .read 0x14#8
  | .wrAccY w => .write 0x14#8 w
  | .rdAccZ => .read 0x18#8
  | .wrAccZ w => .write 0x18#8 w
  | .rdGyrX => .read 0x1C#8
  | .wrGyrX w => .write 0x1C#8 w
  | .rdGyrY => .read 0x20#8
  | .wrGyrY w => .write 0x20#8 w
  | .rdGyrZ => .read 0x24#8
  | .wrGyrZ w => .write 0x24#8 w
  | .rdSelftest => .read 0x28#8
  | .wrSelftest w => .write 0x28#8 w
  | .rdCrcState => .read 0x30#8
  | .wrCrcState w => .write 0x30#8 w
  | .rdCrcResult => .read 0x34#8
  | .wrCrcResult w => .write 0x34#8 w
  | .rdCrcData8 => .read 0x38#8
  | .wrCrcData8 w => .write 0x38#8 w
  | .rdCrcData32 => .read 0x3C#8
  | .wrCrcData32 w => .write 0x3C#8 w
  | .rdFrame0 => .read 0x40#8
  | .wrFrame0 w => .write 0x40#8 w
  | .rdFrame1 => .read 0x44#8
  | .wrFrame1 w => .write 0x44#8 w
  | .rdFrame2 => .read 0x48#8
  | .wrFrame2 w => .write 0x48#8 w
  | .rdFrame3 => .read 0x4C#8
  | .wrFrame3 w => .write 0x4C#8 w
  | .rdFrame4 => .read 0x50#8
  | .wrFrame4 w => .write 0x50#8 w
  | .rdFrame5 => .read 0x54#8
  | .wrFrame5 w => .write 0x54#8 w
  | .rdFrame6 => .read 0x58#8
  | .wrFrame6 w => .write 0x58#8 w
  | .nop => .command 0x00000000#32
  | .build => .command 0x00000001#32
  | .probe => .command 0x00000002#32
  | .frameClr => .command 0x00000003#32
  | .crcInit => .command 0x00000004#32
  | .crcByte b => .command (0x00000005#32 ||| (b.setWidth 32 <<< 8))

/-- The encoding whose bits are `w`, numbered as the opcode table numbers them (log entry 13): up to 16 bits hold a
bus key in bits 8:0, its `wdata` zero; 32 bits hold a command word. -/
def tableEncoding (nbits w : Nat) : Option Encoding :=
  if nbits ≤ 16 then
    if w < 0x100 then some (.read (BitVec.ofNat 8 w))
    else if w < 0x200 then some (.write (BitVec.ofNat 8 w) 0#32)
    else none
  else if nbits ≤ 32 then
    if w < 2 ^ 32 then some (.command (BitVec.ofNat 32 w)) else none
  else none

/-- The instruction the decoder reads from an opcode-table word of `nbits` bits. -/
def decodeTableWord (nbits w : Nat) : Option Instr := (tableEncoding nbits w).bind decode

end Sys2Proof
end

