-- ==== Sys2Proof/Machine/Operands.lean ====
section
/-! DEFINITION. The operand fields of a written word (rule R46) and the byte order of the frame and the window
(rules R32 and R33). -/

namespace Sys2Proof.Machine

/-- `CRC_EN` and `AG_PASS`, and the clear mask of `ILLEGAL_CMD`: bit 0 of the written word (rule R46). -/
def bit0 (w : Word) : Bool := w.getLsbD 0

/-- `STICKY_ST` and `MAG_PASS`, and the clear mask of `RO_WRITE`: bit 1 of the written word (rule R46). -/
def bit1 (w : Word) : Bool := w.getLsbD 1

/-- The sample bits `wdata[15:0]`, with no sign or range check (rule R46). -/
def sampleField (w : Word) : Sample := w.extractLsb' 0 16

/-- Byte lane `i` of a word: bits `8i+7:8i` (rule R33). -/
def byteLane (w : Word) (i : Nat) : Byte := w.extractLsb' (8 * i) 8

/-- `{b3, b2, b1, b0}`: lane 0 in bits 7:0 (rule R33). -/
def wordOfLanes (b3 b2 b1 b0 : Byte) : Word := b3 ++ b2 ++ b1 ++ b0

/-- `v[7:0]`, the first byte of `le16(v)` (rule R9). -/
def lowByte (v : Sample) : Byte := v.extractLsb' 0 8

/-- `v[15:8]`, the second byte of `le16(v)` (rule R9). -/
def highByte (v : Sample) : Byte := v.extractLsb' 8 8

/-- `le32(v)`, low byte first (rule R9). -/
def le32 (v : Word) : List Byte := [byteLane v 0, byteLane v 1, byteLane v 2, byteLane v 3]

/-- A read of a write-only register answers 0 (rules R16, R22 and R78). -/
def writeOnlyWord : Word := 0x00000000#32

end Sys2Proof.Machine
end

