-- ==== Sys2Proof/Machine/State.lean ====
section
/-! DEFINITION. The state: the block's own state, which is exactly the tuple of rule R12, and beside it what the bus
holds between the block and its one host: the transactions the host has issued and not yet seen performed, and
the answer to the last one. All of it is plain data. -/

namespace Sys2Proof.Machine

/-- The frame buffer `F[0]` to `F[26]` (rule R24). Its length is its type's, so equal buffers are equal data
(log entry 8). -/
abbrev FrameBuffer := Vector Byte Config.bufferBytes

/-- The state of the block between transactions: the tuple of rule R12, in its order, and nothing else. -/
structure Block where
  /-- `CRC_EN`, CTRL bit 0 (rule R14). -/
  crcEn : Bool
  /-- `STICKY_ST`, CTRL bit 1 (rule R14). -/
  stickySt : Bool
  /-- `LEN`, one of 0, 1, 23, 27 (rule R15). -/
  len : Byte
  /-- `ILLEGAL_CMD`, ERR bit 0 (rule R17). -/
  illegalCmd : Bool
  /-- `RO_WRITE`, ERR bit 1 (rule R17). -/
  roWrite : Bool
  /-- `S[0]` to `S[5]`: ACC_X, ACC_Y, ACC_Z, GYR_X, GYR_Y, GYR_Z (rule R18). -/
  samples : Vector Sample 6
  /-- `AG_PASS`, SELFTEST bit 0 (rule R19). -/
  agPass : Bool
  /-- `MAG_PASS`, SELFTEST bit 1 (rule R19). -/
  magPass : Bool
  /-- `CRC_STATE` (rule R20). -/
  crcState : Word
  /-- `F[0]` to `F[26]` (rule R24). -/
  frame : FrameBuffer
deriving DecidableEq, Repr

/-- The reasons a transaction ends in an error, as the bus response carries them. No step of the machine ends in one:
rule R94 has the block accept the next transaction as usual, so `step` answers a next state that holds the error
response (log entry 3). -/
inductive Fault where
  /-- BUS-1, BusError, naming the offset. Raised by bus decode for a size other than 4, a misaligned offset or an
  unmapped one (rules R42 and R88). Safe: the transaction is not performed and changes nothing. -/
  | busError (offset : Offset)
deriving DecidableEq, Repr

/-- What the machine gives no meaning, by name. -/
inductive Refusal where
  /-- An instruction that has no meaning yet; raised by an arm of `exec` only. Safe. -/
  | notModelled (mnemonic : String)
  /-- An access by a second bus master or by DMA; raised by the fetch. Safe: rule R98 has a model refuse it rather
  than interleave it. -/
  | secondMaster
  /-- A reset in the middle of a transaction; raised by the fetch. Safe: rule R101 places reset between transactions
  and I17 of 93_implementation_defined.md refuses this one. -/
  | resetInsideAccess
  /-- An access whose bus address lies outside the block's window; raised by the fetch. Safe: rule R28 leaves what
  lies there to the platform. -/
  | outsideWindow (addr : Nat)
deriving DecidableEq, Repr

/-- What a transaction answers (rules R41 and R88). -/
inductive Response where
  /-- OKAY, of a write. -/
  | okay
  /-- The word a read answers. -/
  | data (rdata : Word)
  /-- ERROR, and no data. -/
  | error (f : Fault)
deriving DecidableEq, Repr

/-- The three kinds of exception of rule R87. -/
inductive Exception where
  /-- BUS-1. -/
  | busError (offset : Offset)
  /-- ERR-0. -/
  | illegalCommand
  /-- ERR-1. -/
  | readOnlyWrite
deriving DecidableEq, Repr

/-- What can reach the block from outside, in the order it arrives (rules R3, R37, R98 and R101). -/
inductive Input where
  /-- A transaction of the host, at an offset of the window (rule R41). -/
  | access (a : Access)
  /-- A transaction of the host, at a bus address (rule R28). -/
  | busAccess (addr : Nat) (dir : Direction) (size : Nat)
  /-- The reset input, between transactions (rule R101). -/
  | reset
  /-- An access by a second bus master (rule R98). -/
  | otherMaster (a : Access)
  /-- A reset that cuts a transaction in half (rule R101). -/
  | resetInside (a : Access)
deriving DecidableEq, Repr

/-- The machine: the block and its bus. -/
structure State where
  /-- The block's own state (rule R12). -/
  block : Block
  /-- What has arrived and is not yet performed, oldest first: the program of rule R13 (log entry 1). -/
  pending : List Input
  /-- The answer to the last transaction since reset, if there was one (rule R41; log entry 2). -/
  response : Option Response
deriving DecidableEq, Repr

/-- The block right after reset: every component at its reset value (rules R12 and R101). -/
def Block.reset : Block where
  crcEn := false
  stickySt := false
  len := 0x00#8
  illegalCmd := false
  roWrite := false
  samples := Vector.replicate 6 0x0000#16
  agPass := false
  magPass := false
  crcState := 0xFFFFFFFF#32
  frame := Vector.replicate Config.bufferBytes 0x00#8

/-- The machine right after reset: the block reset, no transaction issued and none answered. -/
def State.reset : State where
  block := Block.reset
  pending := []
  response := none

end Sys2Proof.Machine
end

