-- ==== Sys2Proof/Machine/Flags.lean ====
section
/-! DEFINITION. The one-bit fields of the block: the words CTRL, ERR and SELFTEST read as, the ERR bits, and the two
self-test flag bytes of the frame. The block has no condition codes (rule R26). -/

namespace Sys2Proof.Machine

/-- `zext_32({hi, lo})`: two flag bits as a register word, bits 31:2 reading 0 (rules R73, R80 and R84). -/
def flagWord (hi lo : Bool) : Word := (BitVec.ofBool hi ++ BitVec.ofBool lo).setWidth 32

/-- What CTRL reads as (rule R73). -/
def ctrlWord (b : Block) : Word := flagWord b.stickySt b.crcEn

/-- What ERR reads as (rule R80). -/
def errWord (b : Block) : Word := flagWord b.roWrite b.illegalCmd

/-- What SELFTEST reads as (rule R84). -/
def selftestWord (b : Block) : Word := flagWord b.magPass b.agPass

/-- `zext_8` of an outcome: 0x01 on Pass, 0x00 otherwise (rule R53). -/
def passByte (pass : Bool) : Byte := (BitVec.ofBool pass).setWidth 8

/-- A self-test byte of BUILD. With `STICKY_ST = 0` it shows the latest outcome; with `STICKY_ST = 1` a Pass sets it
and anything else leaves its old value (rule R53). -/
def selftestByte (sticky pass : Bool) (old : Byte) : Byte :=
  if sticky then (if pass then 0x01#8 else old) else passByte pass

/-- `CRC_EN` and `STICKY_ST` from a written word (rule R74). -/
def Block.setCtrl (b : Block) (w : Word) : Block := { b with crcEn := bit0 w, stickySt := bit1 w }

/-- `AG_PASS` and `MAG_PASS` from a written word (rule R85). -/
def Block.setSelftest (b : Block) (w : Word) : Block := { b with agPass := bit0 w, magPass := bit1 w }

/-- Sets `ILLEGAL_CMD`; a set bit stays set (rule R89). -/
def Block.setIllegalCmd (b : Block) : Block := { b with illegalCmd := true }

/-- Sets `RO_WRITE`; a set bit stays set (rule R90). -/
def Block.setRoWrite (b : Block) : Block := { b with roWrite := true }

/-- Clears the ERR bits written as 1 and leaves the others (rule R81). -/
def Block.clearErrors (b : Block) (w : Word) : Block :=
  { b with illegalCmd := if bit0 w then false else b.illegalCmd, roWrite := if bit1 w then false else b.roWrite }

end Sys2Proof.Machine
end

