-- ==== Sys2Proof/Machine/Ops.lean ====
section
/-! DEFINITION. The shared operations: reading and writing the registers and the frame buffer, the CRC-32 function,
the answers to a transaction, and taking an exception. -/

namespace Sys2Proof.Machine

/-! ## The frame buffer -/

/-- Byte `i` of the frame as the FRAME window shows it: `B(i)` of rule R23, so byte 27 reads 0x00. -/
def FrameBuffer.at (f : FrameBuffer) (i : Nat) : Byte := if h : i < Config.bufferBytes then f[i] else 0x00#8

/-- `F[i] <- v`, for `i` in 0..26 (rule R9). -/
def FrameBuffer.put (f : FrameBuffer) (i : Nat) (v : Byte) : FrameBuffer := f.setIfInBounds i v

/-- `F[0], ..., F[n-1]`. -/
def FrameBuffer.first (f : FrameBuffer) (n : Nat) : List Byte := (List.range n).map (FrameBuffer.at f)

/-- The word FRAMEk reads as: frame byte `4k` in bits 7:0, whatever `LEN` is (rules R23 and R76). -/
def frameWord (f : FrameBuffer) (k : Nat) : Word :=
  wordOfLanes (FrameBuffer.at f (4 * k + 3)) (FrameBuffer.at f (4 * k + 2)) (FrameBuffer.at f (4 * k + 1))
    (FrameBuffer.at f (4 * k))

/-! ## The sample registers -/

/-- What sample register `i` reads as: the 16 bits zero-extended (rule R82). -/
def sampleWord (b : Block) (i : Fin 6) : Word := b.samples[i].setWidth 32

/-- `S[i] <- wdata[15:0]` (rule R83). -/
def Block.setSample (b : Block) (i : Fin 6) (w : Word) : Block :=
  { b with samples := b.samples.set i (sampleField w) }

/-! ## CRC-32 -/

/-- One of the eight bit steps of a CRC byte step, least significant bit first (rule R61). -/
def crcShift (s : Word) : Word := if s.getLsbD 0 then (s >>> 1) ^^^ Config.crcPoly else s >>> 1

/-- `crc_step8` of rule R61: the byte is taken in by exclusive or, and then eight bit steps. -/
def crcStep8 (s : Word) (b : Byte) : Word :=
  crcShift (crcShift (crcShift (crcShift (crcShift (crcShift (crcShift (crcShift (s ^^^ b.setWidth 32))))))))

/-- The register after the bytes of a message, in message order (rule R63). -/
def crcFeed (s : Word) (bytes : List Byte) : Word := bytes.foldl crcStep8 s

/-- `crc32` of a byte sequence (rule R63). -/
def crc32 (bytes : List Byte) : Word := crcFeed Config.crcInit bytes ^^^ Config.crcXorOut

/-- The constant CRC table, `T[n] = crc_step8(0, n)`: not state (rules R25 and R62). -/
def crcTable (n : Byte) : Word := crcStep8 0x00000000#32 n

/-- The table form of the byte step, which rule R62 says is the same function. -/
def crcStep8ByTable (s : Word) (b : Byte) : Word := (s >>> 8) ^^^ crcTable ((s ^^^ b.setWidth 32).extractLsb' 0 8)

/-- What CRC_RESULT reads as (rule R70). -/
def crcResultWord (b : Block) : Word := b.crcState ^^^ Config.crcXorOut

/-- `CRC_STATE <- w` (rule R69). -/
def Block.setCrcState (b : Block) (w : Word) : Block := { b with crcState := w }

/-- Feeds bytes to the streaming engine, in order (rules R65 to R67). -/
def Block.feedCrc (b : Block) (bytes : List Byte) : Block := b.setCrcState (crcFeed b.crcState bytes)

/-! ## The frame encoder -/

/-- One sample of the packer: sample `i` in bytes `1+2i` and `2+2i`, low byte first (rule R52). -/
def packSample (samples : Vector Sample 6) (f : FrameBuffer) (i : Fin 6) : FrameBuffer :=
  FrameBuffer.put (FrameBuffer.put f (1 + 2 * i.val) (lowByte samples[i])) (2 + 2 * i.val) (highByte samples[i])

/-- `pack_samples` of rule R52: the six samples in their fixed order. -/
def packSamples (samples : Vector Sample 6) (f : FrameBuffer) : FrameBuffer :=
  [0, 1, 2, 3, 4, 5].foldl (packSample samples) f

/-- The reserved bytes 13 to 20 are written 0x00 on every BUILD (rule R51). -/
def clearReserved (f : FrameBuffer) : FrameBuffer :=
  [13, 14, 15, 16, 17, 18, 19, 20].foldl (fun f j => FrameBuffer.put f j 0x00#8) f

/-- `update_selftest_bytes` of rule R53: bytes 21 and 22. -/
def putSelftest (b : Block) (f : FrameBuffer) : FrameBuffer :=
  FrameBuffer.put (FrameBuffer.put f 21 (selftestByte b.stickySt b.agPass (FrameBuffer.at f 21))) 22
    (selftestByte b.stickySt b.magPass (FrameBuffer.at f 22))

/-- Bytes 23 to 26 (rule R54). -/
def putTrailer (f : FrameBuffer) (b23 b24 b25 b26 : Byte) : FrameBuffer :=
  FrameBuffer.put (FrameBuffer.put (FrameBuffer.put (FrameBuffer.put f 23 b23) 24 b24) 25 b25) 26 b26

/-- `append_trailer` of rule R54: the CRC-32 of bytes 0 to 22 when `CRC_EN = 1`, and zero bytes otherwise. The
streaming register is neither read nor written. -/
def appendTrailer (crcEn : Bool) (f : FrameBuffer) : FrameBuffer :=
  if crcEn then
    let c := crc32 (FrameBuffer.first f Config.crcSpan)
    putTrailer f (byteLane c 0) (byteLane c 1) (byteLane c 2) (byteLane c 3)
  else putTrailer f 0x00#8 0x00#8 0x00#8 0x00#8

/-- `LEN` after BUILD (rule R54). -/
def builtLen (crcEn : Bool) : Byte := if crcEn then Config.frameBytesCrc else Config.frameBytes

/-- Bytes 0 to 22 of BUILD: marker, samples, reserved bytes, self-test bytes, in the order of rule R51. -/
def buildBody (b : Block) : FrameBuffer :=
  putSelftest b (clearReserved (packSamples b.samples (FrameBuffer.put b.frame 0 Config.marker)))

/-- BUILD (rule R51). -/
def Block.build (b : Block) : Block :=
  { b with frame := appendTrailer b.crcEn (buildBody b), len := builtLen b.crcEn }

/-- PROBE: `F[0]` and `LEN`, the other bytes kept (rule R55). -/
def Block.probe (b : Block) : Block :=
  { b with frame := FrameBuffer.put b.frame 0 Config.probeByte, len := Config.probeBytes }

/-- FRAME_CLR (rule R56). -/
def Block.clearFrame (b : Block) : Block :=
  { b with frame := Vector.replicate Config.bufferBytes 0x00#8, len := 0x00#8 }

/-! ## Answers and exceptions -/

/-- A read answers a word and changes nothing in the block (rule R36). -/
def State.answerData (s : State) (w : Word) : State := { s with response := some (.data w) }

/-- A write takes effect whole and answers OKAY (rules R35 and R87). -/
def State.answerOkay (s : State) (b : Block) : State := { s with block := b, response := some .okay }

/-- Taking an exception, the one operation for all three kinds of rule R87. A BusError changes nothing in the block
and answers ERROR (rule R88); an illegal command word and a write to a read-only register set their ERR bit and answer
OKAY (rules R89 and R90). There is no trap to enter and none to return from: the block goes on with the next
transaction, and the ERR bits stay until WR ERR clears them, `Block.clearErrors`, or reset (rules R93 and R94). -/
def State.takeException (s : State) : Exception → State
  | .busError off => { s with response := some (.error (.busError off)) }
  | .illegalCommand => s.answerOkay s.block.setIllegalCmd
  | .readOnlyWrite => s.answerOkay s.block.setRoWrite

/-- Reset sets every component of the block to its reset value. What has arrived after it stays to be performed, and
no transaction has been answered yet (rule R101; log entry 10). -/
def State.applyReset (s : State) : State := { s with block := Block.reset, response := none }

/-! ## The window on the bus -/

/-- The bus address of a window offset (rule R28). -/
def busAddress (off : Offset) : Nat := Config.blockBase + off.toNat

/-- The window offset of a bus address, if the address lies in the window (rule R28). -/
def windowOffset (addr : Nat) : Option Offset :=
  if Config.blockBase ≤ addr ∧ addr < Config.blockBase + Config.windowBytes then
    some (BitVec.ofNat 8 (addr - Config.blockBase))
  else none

/-- The host's transaction that carries an instruction. -/
def Input.ofInstr (i : Instr) : Input := .access (encode i).access

end Sys2Proof.Machine
end

