-- ==== Sys2Proof/Machine/Crc.lean ====
section
/-! DEFINITION. The streaming CRC engine: its two commands, its registers and its data ports (41_crc32.md). -/

namespace Sys2Proof.Machine

/-- RD CRC_STATE: the raw CRC register (rule R68). -/
def execRdCrcState (s : State) : Host.Outcome State Fault Refusal := .next (s.answerData s.block.crcState)

/-- WR CRC_STATE: sets the raw CRC register (rule R69). -/
def execWrCrcState (w : Word) (s : State) : Host.Outcome State Fault Refusal :=
  .next (s.answerOkay (s.block.setCrcState w))

/-- RD CRC_RESULT: the finished CRC, without finishing it (rule R70). -/
def execRdCrcResult (s : State) : Host.Outcome State Fault Refusal := .next (s.answerData (crcResultWord s.block))

/-- WR CRC_RESULT: a write to a read-only register is a ReadOnlyWrite, its data ignored (rule R79). -/
def execWrCrcResult (_ : Word) (s : State) : Host.Outcome State Fault Refusal :=
  .next (s.takeException .readOnlyWrite)

/-- RD CRC_DATA8: a write-only register reads 0 (rule R78). -/
def execRdCrcData8 (s : State) : Host.Outcome State Fault Refusal := .next (s.answerData writeOnlyWord)

/-- WR CRC_DATA8: feeds `wdata[7:0]` (rule R66). -/
def execWrCrcData8 (w : Word) (s : State) : Host.Outcome State Fault Refusal :=
  .next (s.answerOkay (s.block.feedCrc [byteLane w 0]))

/-- RD CRC_DATA32: a write-only register reads 0 (rule R78). -/
def execRdCrcData32 (s : State) : Host.Outcome State Fault Refusal := .next (s.answerData writeOnlyWord)

/-- WR CRC_DATA32: feeds four bytes, lane 0 first (rule R67). -/
def execWrCrcData32 (w : Word) (s : State) : Host.Outcome State Fault Refusal :=
  .next (s.answerOkay (s.block.feedCrc (le32 w)))

/-- CRC_INIT: starts a new CRC (rule R64). -/
def execCrcInit (s : State) : Host.Outcome State Fault Refusal := .next (s.answerOkay (s.block.setCrcState Config.crcInit))

/-- CRC_BYTE: feeds the byte in the command word (rule R65). -/
def execCrcByte (b : Byte) (s : State) : Host.Outcome State Fault Refusal := .next (s.answerOkay (s.block.feedCrc [b]))

end Sys2Proof.Machine
end

