-- ==== Sys2Proof/Machine/FrameEncoder.lean ====
section
/-! DEFINITION. The frame encoder's commands and NOP (40_frame_encoder.md). -/

namespace Sys2Proof.Machine

/-- NOP: no state change (rule R57). -/
def execNop (s : State) : Host.Outcome State Fault Refusal := .next (s.answerOkay s.block)

/-- BUILD: encodes the current inputs into a steady-state frame (rule R51). -/
def execBuild (s : State) : Host.Outcome State Fault Refusal := .next (s.answerOkay s.block.build)

/-- PROBE: makes the one-byte link-alive probe frame (rule R55). -/
def execProbe (s : State) : Host.Outcome State Fault Refusal := .next (s.answerOkay s.block.probe)

/-- FRAME_CLR: clears the frame buffer (rule R56). -/
def execFrameClr (s : State) : Host.Outcome State Fault Refusal := .next (s.answerOkay s.block.clearFrame)

end Sys2Proof.Machine
end

