-- ==== Sys2Proof/Machine/Command.lean ====
section
/-! DEFINITION. The command port: the write to CMD decodes its word and performs the command (rule R77). -/

namespace Sys2Proof.Machine

/-- WR CMD: performs the command the word selects, or takes IllegalCommand for a word that selects none (rule R77).
A command word selects one of the six commands only, so the last arm is never reached for a word that decodes. -/
def execWrCmd (w : Word) (s : State) : Host.Outcome State Fault Refusal :=
  match decodeCommand w with
  | some .nop => execNop s
  | some .build => execBuild s
  | some .probe => execProbe s
  | some .frameClr => execFrameClr s
  | some .crcInit => execCrcInit s
  | some (.crcByte b) => execCrcByte b s
  | _ => .next (s.takeException .illegalCommand)

end Sys2Proof.Machine
end

