-- ==== Sys2Proof/Machine/FrameWindow.lean ====
section
/-! DEFINITION. FRAME_LEN and the FRAME window: read-only registers, whose writes raise ReadOnlyWrite (rules R75, R76 and R79). -/

namespace Sys2Proof.Machine

/-- RD FRAME_LEN: `LEN` zero-extended (rule R75). -/
def execRdFrameLen (s : State) : Host.Outcome State Fault Refusal := .next (s.answerData (s.block.len.setWidth 32))

/-- WR FRAME_LEN: a write to a read-only register is a ReadOnlyWrite, its data ignored (rule R79). -/
def execWrFrameLen (_ : Word) (s : State) : Host.Outcome State Fault Refusal :=
  .next (s.takeException .readOnlyWrite)

/-- RD FRAME0: frame bytes 0 to 3 (rule R76). -/
def execRdFrame0 (s : State) : Host.Outcome State Fault Refusal := .next (s.answerData (frameWord s.block.frame 0))

/-- WR FRAME0: a write to a read-only register is a ReadOnlyWrite, its data ignored (rule R79). -/
def execWrFrame0 (_ : Word) (s : State) : Host.Outcome State Fault Refusal :=
  .next (s.takeException .readOnlyWrite)

/-- RD FRAME1: frame bytes 4 to 7 (rule R76). -/
def execRdFrame1 (s : State) : Host.Outcome State Fault Refusal := .next (s.answerData (frameWord s.block.frame 1))

/-- WR FRAME1: a write to a read-only register is a ReadOnlyWrite, its data ignored (rule R79). -/
def execWrFrame1 (_ : Word) (s : State) : Host.Outcome State Fault Refusal :=
  .next (s.takeException .readOnlyWrite)

/-- RD FRAME2: frame bytes 8 to 11 (rule R76). -/
def execRdFrame2 (s : State) : Host.Outcome State Fault Refusal := .next (s.answerData (frameWord s.block.frame 2))

/-- WR FRAME2: a write to a read-only register is a ReadOnlyWrite, its data ignored (rule R79). -/
def execWrFrame2 (_ : Word) (s : State) : Host.Outcome State Fault Refusal :=
  .next (s.takeException .readOnlyWrite)

/-- RD FRAME3: frame bytes 12 to 15 (rule R76). -/
def execRdFrame3 (s : State) : Host.Outcome State Fault Refusal := .next (s.answerData (frameWord s.block.frame 3))

/-- WR FRAME3: a write to a read-only register is a ReadOnlyWrite, its data ignored (rule R79). -/
def execWrFrame3 (_ : Word) (s : State) : Host.Outcome State Fault Refusal :=
  .next (s.takeException .readOnlyWrite)

/-- RD FRAME4: frame bytes 16 to 19 (rule R76). -/
def execRdFrame4 (s : State) : Host.Outcome State Fault Refusal := .next (s.answerData (frameWord s.block.frame 4))

/-- WR FRAME4: a write to a read-only register is a ReadOnlyWrite, its data ignored (rule R79). -/
def execWrFrame4 (_ : Word) (s : State) : Host.Outcome State Fault Refusal :=
  .next (s.takeException .readOnlyWrite)

/-- RD FRAME5: frame bytes 20 to 23 (rule R76). -/
def execRdFrame5 (s : State) : Host.Outcome State Fault Refusal := .next (s.answerData (frameWord s.block.frame 5))

/-- WR FRAME5: a write to a read-only register is a ReadOnlyWrite, its data ignored (rule R79). -/
def execWrFrame5 (_ : Word) (s : State) : Host.Outcome State Fault Refusal :=
  .next (s.takeException .readOnlyWrite)

/-- RD FRAME6: frame bytes 24 to 26 (rule R76). -/
def execRdFrame6 (s : State) : Host.Outcome State Fault Refusal := .next (s.answerData (frameWord s.block.frame 6))

/-- WR FRAME6: a write to a read-only register is a ReadOnlyWrite, its data ignored (rule R79). -/
def execWrFrame6 (_ : Word) (s : State) : Host.Outcome State Fault Refusal :=
  .next (s.takeException .readOnlyWrite)

end Sys2Proof.Machine
end

