-- ==== Sys2Proof/Machine/Registers.lean ====
section
/-! DEFINITION. The reads and writes of CTRL, ERR, the sample registers and SELFTEST, and the read of CMD (42_register_access.md). -/

namespace Sys2Proof.Machine

/-- RD CTRL: `CRC_EN` and `STICKY_ST` (rule R73). -/
def execRdCtrl (s : State) : Host.Outcome State Fault Refusal := .next (s.answerData (ctrlWord s.block))

/-- WR CTRL: `CRC_EN` and `STICKY_ST`, which act at the next BUILD (rule R74). -/
def execWrCtrl (w : Word) (s : State) : Host.Outcome State Fault Refusal :=
  .next (s.answerOkay (s.block.setCtrl w))

/-- RD CMD: a write-only register reads 0 (rule R78). -/
def execRdCmd (s : State) : Host.Outcome State Fault Refusal := .next (s.answerData writeOnlyWord)

/-- RD ERR: the ERR bits, which the read does not clear (rule R80). -/
def execRdErr (s : State) : Host.Outcome State Fault Refusal := .next (s.answerData (errWord s.block))

/-- WR ERR: clears the ERR bits written as 1 (rule R81). -/
def execWrErr (w : Word) (s : State) : Host.Outcome State Fault Refusal :=
  .next (s.answerOkay (s.block.clearErrors w))

/-- RD ACC_X: `S[0]` zero-extended (rule R82). -/
def execRdAccX (s : State) : Host.Outcome State Fault Refusal := .next (s.answerData (sampleWord s.block 0))

/-- WR ACC_X: `S[0]` (rule R83). -/
def execWrAccX (w : Word) (s : State) : Host.Outcome State Fault Refusal :=
  .next (s.answerOkay (s.block.setSample 0 w))

/-- RD ACC_Y: `S[1]` zero-extended (rule R82). -/
def execRdAccY (s : State) : Host.Outcome State Fault Refusal := .next (s.answerData (sampleWord s.block 1))

/-- WR ACC_Y: `S[1]` (rule R83). -/
def execWrAccY (w : Word) (s : State) : Host.Outcome State Fault Refusal :=
  .next (s.answerOkay (s.block.setSample 1 w))

/-- RD ACC_Z: `S[2]` zero-extended (rule R82). -/
def execRdAccZ (s : State) : Host.Outcome State Fault Refusal := .next (s.answerData (sampleWord s.block 2))

/-- WR ACC_Z: `S[2]` (rule R83). -/
def execWrAccZ (w : Word) (s : State) : Host.Outcome State Fault Refusal :=
  .next (s.answerOkay (s.block.setSample 2 w))

/-- RD GYR_X: `S[3]` zero-extended (rule R82). -/
def execRdGyrX (s : State) : Host.Outcome State Fault Refusal := .next (s.answerData (sampleWord s.block 3))

/-- WR GYR_X: `S[3]` (rule R83). -/
def execWrGyrX (w : Word) (s : State) : Host.Outcome State Fault Refusal :=
  .next (s.answerOkay (s.block.setSample 3 w))

/-- RD GYR_Y: `S[4]` zero-extended (rule R82). -/
def execRdGyrY (s : State) : Host.Outcome State Fault Refusal := .next (s.answerData (sampleWord s.block 4))

/-- WR GYR_Y: `S[4]` (rule R83). -/
def execWrGyrY (w : Word) (s : State) : Host.Outcome State Fault Refusal :=
  .next (s.answerOkay (s.block.setSample 4 w))

/-- RD GYR_Z: `S[5]` zero-extended (rule R82). -/
def execRdGyrZ (s : State) : Host.Outcome State Fault Refusal := .next (s.answerData (sampleWord s.block 5))

/-- WR GYR_Z: `S[5]` (rule R83). -/
def execWrGyrZ (w : Word) (s : State) : Host.Outcome State Fault Refusal :=
  .next (s.answerOkay (s.block.setSample 5 w))

/-- RD SELFTEST: `AG_PASS` and `MAG_PASS` (rule R84). -/
def execRdSelftest (s : State) : Host.Outcome State Fault Refusal := .next (s.answerData (selftestWord s.block))

/-- WR SELFTEST: `AG_PASS` and `MAG_PASS` (rule R85). -/
def execWrSelftest (w : Word) (s : State) : Host.Outcome State Fault Refusal :=
  .next (s.answerOkay (s.block.setSelftest w))

end Sys2Proof.Machine
end

