-- ==== Sys2Proof/Machine/Dispatch.lean ====
section
/-! DEFINITION. One arm per instruction, each one call of its meaning. -/

namespace Sys2Proof.Machine

/-- The meaning of an instruction at a state whose transaction the bus has already taken (rule R10). -/
def exec (i : Instr) (s : State) : Host.Outcome State Fault Refusal :=
  match i with
  | .rdCtrl => Sys2Proof.Machine.execRdCtrl s
  | .wrCtrl w => Sys2Proof.Machine.execWrCtrl w s
  | .rdFrameLen => Sys2Proof.Machine.execRdFrameLen s
  | .wrFrameLen w => Sys2Proof.Machine.execWrFrameLen w s
  | .rdCmd => Sys2Proof.Machine.execRdCmd s
  | .wrCmd w => Sys2Proof.Machine.execWrCmd w s
  | .rdErr => Sys2Proof.Machine.execRdErr s
  | .wrErr w => Sys2Proof.Machine.execWrErr w s
  | .rdAccX => Sys2Proof.Machine.execRdAccX s
  | .wrAccX w => Sys2Proof.Machine.execWrAccX w s
  | .rdAccY => Sys2Proof.Machine.execRdAccY s
  | .wrAccY w => Sys2Proof.Machine.execWrAccY w s
  | .rdAccZ => Sys2Proof.Machine.execRdAccZ s
  | .wrAccZ w => Sys2Proof.Machine.execWrAccZ w s
  | .rdGyrX => Sys2Proof.Machine.execRdGyrX s
  | .wrGyrX w => Sys2Proof.Machine.execWrGyrX w s
  | .rdGyrY => Sys2Proof.Machine.execRdGyrY s
  | .wrGyrY w => Sys2Proof.Machine.execWrGyrY w s
  | .rdGyrZ => Sys2Proof.Machine.execRdGyrZ s
  | .wrGyrZ w => Sys2Proof.Machine.execWrGyrZ w s
  | .rdSelftest => Sys2Proof.Machine.execRdSelftest s
  | .wrSelftest w => Sys2Proof.Machine.execWrSelftest w s
  | .rdCrcState => Sys2Proof.Machine.execRdCrcState s
  | .wrCrcState w => Sys2Proof.Machine.execWrCrcState w s
  | .rdCrcResult => Sys2Proof.Machine.execRdCrcResult s
  | .wrCrcResult w => Sys2Proof.Machine.execWrCrcResult w s
  | .rdCrcData8 => Sys2Proof.Machine.execRdCrcData8 s
  | .wrCrcData8 w => Sys2Proof.Machine.execWrCrcData8 w s
  | .rdCrcData32 => Sys2Proof.Machine.execRdCrcData32 s
  | .wrCrcData32 w => Sys2Proof.Machine.execWrCrcData32 w s
  | .rdFrame0 => Sys2Proof.Machine.execRdFrame0 s
  | .wrFrame0 w => Sys2Proof.Machine.execWrFrame0 w s
  | .rdFrame1 => Sys2Proof.Machine.execRdFrame1 s
  | .wrFrame1 w => Sys2Proof.Machine.execWrFrame1 w s
  | .rdFrame2 => Sys2Proof.Machine.execRdFrame2 s
  | .wrFrame2 w => Sys2Proof.Machine.execWrFrame2 w s
  | .rdFrame3 => Sys2Proof.Machine.execRdFrame3 s
  | .wrFrame3 w => Sys2Proof.Machine.execWrFrame3 w s
  | .rdFrame4 => Sys2Proof.Machine.execRdFrame4 s
  | .wrFrame4 w => Sys2Proof.Machine.execWrFrame4 w s
  | .rdFrame5 => Sys2Proof.Machine.execRdFrame5 s
  | .wrFrame5 w => Sys2Proof.Machine.execWrFrame5 w s
  | .rdFrame6 => Sys2Proof.Machine.execRdFrame6 s
  | .wrFrame6 w => Sys2Proof.Machine.execWrFrame6 w s
  | .nop => Sys2Proof.Machine.execNop s
  | .build => Sys2Proof.Machine.execBuild s
  | .probe => Sys2Proof.Machine.execProbe s
  | .frameClr => Sys2Proof.Machine.execFrameClr s
  | .crcInit => Sys2Proof.Machine.execCrcInit s
  | .crcByte b => Sys2Proof.Machine.execCrcByte b s

end Sys2Proof.Machine
end

