-- ==== Sys2Proof/Machine/Fetch.lean ====
section
/-! DEFINITION. Taking the next input: the block performs transactions one at a time in the order the host issues
them (rule R37), so a step takes the oldest pending input and says what is to be done with it. -/

namespace Sys2Proof.Machine

/-- What the oldest pending input asks for. -/
inductive Fetch where
  /-- Nothing more than going on at `s`: no input, a reset, or a transaction that ended in BusError. -/
  | done (s : State)
  /-- Performing the instruction `i` at `s`. -/
  | perform (i : Instr) (s : State)
  /-- An input the model refuses by name. -/
  | refuse (r : Refusal)
deriving DecidableEq, Repr

/-- A transaction at a window offset: bus decode, and BusError if it fails (rules R42 and R88). -/
def fetchAccess (a : Access) (s : State) : Fetch :=
  match decodeAccess a with
  | .ok i => .perform i s
  | .error r => .done (s.takeException (.busError r.offset))

/-- Takes the oldest pending input. With none, the block waits: it never starts a transaction of its own (rule R3; log
entry 4). -/
def fetch (s : State) : Fetch :=
  match s.pending with
  | [] => .done s
  | .access a :: rest => fetchAccess a { s with pending := rest }
  | .busAccess addr dir size :: rest =>
    match windowOffset addr with
    | some off => fetchAccess ⟨dir, off, size⟩ { s with pending := rest }
    | none => .refuse (.outsideWindow addr)
  | .reset :: rest => .done ({ s with pending := rest } : State).applyReset
  | .otherMaster _ :: _ => .refuse .secondMaster
  | .resetInside _ :: _ => .refuse .resetInsideAccess

/-- Places a transaction where the next fetch takes it from. -/
def State.issueNext (s : State) (a : Access) : State := { s with pending := .access a :: s.pending }

end Sys2Proof.Machine
end

