-- ==== Sys2Proof/Machine/Step.lean ====
section
/-! DEFINITION. One step of the machine: one transaction, performed whole (rules R2 and R35). -/

namespace Sys2Proof.Machine

/-- One step: takes the oldest pending input and performs it. -/
def step (s : State) : Host.Outcome State Fault Refusal :=
  match fetch s with
  | .done s' => .next s'
  | .perform i s' => exec i s'
  | .refuse r => .refused r

/-- The state with the instruction of an opcode-table word issued as the very next transaction (log entries 1 and 13).
A bus row's `wdata` is zero; a command row is issued as the write to CMD that carries its word. A number that is no
table word places nothing. -/
def State.withFetchWord (s : State) (nbits w : Nat) : State :=
  match tableEncoding nbits w with
  | some e => s.issueNext e.access
  | none => s

end Sys2Proof.Machine
end

