-- ==== Sys2Proof/Machine/Script.lean ====
section
/-! DEFINITION. The register map by name (rule R29) and the host's transaction scripts: the lines of rule R48 and the
pseudo-instructions of rule R49, each with the transactions it stands for. -/

namespace Sys2Proof.Machine

/-- The 22 registers of rule R29. -/
inductive Reg where
  | ctrl | frameLen | cmd | err | accX | accY | accZ | gyrX | gyrY | gyrZ | selftest
  | crcState | crcResult | crcData8 | crcData32
  | frame0 | frame1 | frame2 | frame3 | frame4 | frame5 | frame6
deriving DecidableEq, Repr

/-- The access types of 10_state.md, section 2. -/
inductive AccessType where
  | rw | ro | wo | w1c
deriving DecidableEq, Repr

/-- The window offset of a register (rule R29). -/
def regOffset : Reg → Offset
  | .ctrl => 0x00#8
  | .frameLen => 0x04#8
  | .cmd => 0x08#8
  | .err => 0x0C#8
  | .accX => 0x10#8
  | .accY => 0x14#8
  | .accZ => 0x18#8
  | .gyrX => 0x1C#8
  | .gyrY => 0x20#8
  | .gyrZ => 0x24#8
  | .selftest => 0x28#8
  | .crcState => 0x30#8
  | .crcResult => 0x34#8
  | .crcData8 => 0x38#8
  | .crcData32 => 0x3C#8
  | .frame0 => 0x40#8
  | .frame1 => 0x44#8
  | .frame2 => 0x48#8
  | .frame3 => 0x4C#8
  | .frame4 => 0x50#8
  | .frame5 => 0x54#8
  | .frame6 => 0x58#8

/-- The access type of a register (rule R29). -/
def regAccess : Reg → AccessType
  | .ctrl | .accX | .accY | .accZ | .gyrX | .gyrY | .gyrZ | .selftest | .crcState => .rw
  | .frameLen | .crcResult | .frame0 | .frame1 | .frame2 | .frame3 | .frame4 | .frame5 | .frame6 => .ro
  | .cmd | .crcData8 | .crcData32 => .wo
  | .err => .w1c

/-- The sample registers (rule R18). -/
def regIsSample : Reg → Bool
  | .accX | .accY | .accZ | .gyrX | .gyrY | .gyrZ => true
  | .ctrl | .frameLen | .cmd | .err | .selftest | .crcState | .crcResult | .crcData8 | .crcData32
  | .frame0 | .frame1 | .frame2 | .frame3 | .frame4 | .frame5 | .frame6 => false

/-- A `<value>` of rule R48: a hexadecimal literal, a decimal literal, or a character in quotes. -/
inductive Literal where
  | hex (n : Nat)
  | dec (n : Int)
  | chr (c : Char)
deriving DecidableEq, Repr

/-- The word a literal stands for when it is written to a register: a negative decimal is its 16-bit two's complement
in a sample register and its 32-bit two's complement elsewhere (rule R48; a literal wider than 32 bits, log entry 12). -/
def literalWord (r : Reg) : Literal → Word
  | .hex n => BitVec.ofNat 32 n
  | .chr c => BitVec.ofNat 32 c.toNat
  | .dec n => if n < 0 ∧ regIsSample r then (BitVec.ofInt 16 n).setWidth 32 else BitVec.ofInt 32 n

/-- A line of a script: the two transactions, the six commands (rule R48) and the pseudo-instructions (rule R49). -/
inductive ScriptLine where
  | wr (r : Reg) (value : Literal)
  | rd (r : Reg)
  | nop
  | build
  | probe
  | frameClr
  | crcInit
  | crcByte (imm8 : Byte)
  | sample (ax ay az gx gy gz st : Literal)
  | crcFeed8 (b : Literal)
  | crcFeed32 (v : Literal)
  | rdFrame
  | clrErr
  | cfg (crcEn sticky : Bool)
deriving DecidableEq, Repr

/-- `WR <REG>, <value>` (rule R48). -/
def writeReg (r : Reg) (w : Word) : Access := ⟨.write w, regOffset r, 4⟩

/-- `RD <REG>` (rule R48). -/
def readReg (r : Reg) : Access := ⟨.read, regOffset r, 4⟩

/-- The transactions a line stands for, in order (rules R48 and R49). -/
def assemble : ScriptLine → List Access
  | .wr r v => [writeReg r (literalWord r v)]
  | .rd r => [readReg r]
  | .nop => [writeReg .cmd 0x00000000#32]
  | .build => [writeReg .cmd 0x00000001#32]
  | .probe => [writeReg .cmd 0x00000002#32]
  | .frameClr => [writeReg .cmd 0x00000003#32]
  | .crcInit => [writeReg .cmd 0x00000004#32]
  | .crcByte b => [writeReg .cmd (0x00000005#32 ||| (b.setWidth 32 <<< 8))]
  | .sample ax ay az gx gy gz st =>
    [writeReg .accX (literalWord .accX ax), writeReg .accY (literalWord .accY ay),
     writeReg .accZ (literalWord .accZ az), writeReg .gyrX (literalWord .gyrX gx),
     writeReg .gyrY (literalWord .gyrY gy), writeReg .gyrZ (literalWord .gyrZ gz),
     writeReg .selftest (literalWord .selftest st)]
  | .crcFeed8 b => [writeReg .crcData8 (literalWord .crcData8 b)]
  | .crcFeed32 v => [writeReg .crcData32 (literalWord .crcData32 v)]
  | .rdFrame =>
    [readReg .frameLen, readReg .frame0, readReg .frame1, readReg .frame2, readReg .frame3,
     readReg .frame4, readReg .frame5, readReg .frame6]
  | .clrErr => [writeReg .err 0x00000003#32]
  | .cfg crcEn sticky =>
    [writeReg .ctrl (((BitVec.ofBool sticky).setWidth 32 <<< 1) ||| (BitVec.ofBool crcEn).setWidth 32)]

/-- A script issued to a machine: its transactions are the pending inputs, in line order (rule R13). -/
def State.loadScript (s : State) (lines : List ScriptLine) : State :=
  { s with pending := (lines.flatMap assemble).map Input.access }

end Sys2Proof.Machine
end

