-- ==== Sys2Proof/Safety.lean ====
section
/-! DEFINITION. What claims are stated in terms of: the frame the host would send (rule R50), the invariants of every
reachable state (rule R27), and which bytes an instruction feeds to the CRC engine (rule R71), and what
the next step performs. -/

namespace Sys2Proof.Machine

/-- The byte sequence the block offers for transmission, `F[0]` to `F[LEN-1]` in wire order (rule R50). -/
def Block.offeredFrame (b : Block) : List Byte := FrameBuffer.first b.frame b.len.toNat

/-- The invariants of rule R27, one field each, in the rule's order. -/
structure Block.Inv (b : Block) : Prop where
  /-- Invariant 1. -/
  flagBytes : ∀ j, j = 21 ∨ j = 22 → FrameBuffer.at b.frame j = 0x00#8 ∨ FrameBuffer.at b.frame j = 0x01#8
  /-- Invariant 2. -/
  lengths : b.len = 0#8 ∨ b.len = 1#8 ∨ b.len = 23#8 ∨ b.len = 27#8
  /-- Invariant 3. -/
  reserved : ∀ j, 13 ≤ j → j ≤ 20 → FrameBuffer.at b.frame j = 0x00#8
  /-- Invariant 4. -/
  plainFrame : b.len = 23#8 →
    FrameBuffer.at b.frame 0 = 0x7E#8 ∧ ∀ j, 23 ≤ j → j ≤ 26 → FrameBuffer.at b.frame j = 0x00#8
  /-- Invariant 5. -/
  trailerFrame : b.len = 27#8 → FrameBuffer.at b.frame 0 = 0x7E#8 ∧
    le32 (crc32 (FrameBuffer.first b.frame 23)) =
      [FrameBuffer.at b.frame 23, FrameBuffer.at b.frame 24, FrameBuffer.at b.frame 25, FrameBuffer.at b.frame 26]
  /-- Invariant 6. -/
  probeFrame : b.len = 1#8 → FrameBuffer.at b.frame 0 = 0xAA#8

/-- The bytes an instruction feeds to the streaming engine, in order; none where an instruction may change `CRC_STATE`
otherwise (CRC_INIT and WR CRC_STATE). A write to CMD is told by the command it performs (rule R71). -/
def feedOf : Instr → Option (List Byte)
  | .crcByte b => some [b]
  | .wrCrcData8 w => some [byteLane w 0]
  | .wrCrcData32 w => some (le32 w)
  | .crcInit => none
  | .wrCrcState _ => none
  | .wrCmd w =>
    match decodeCommand w with
    | some (.crcByte b) => some [b]
    | some .crcInit => none
    | _ => some []
  | .nop | .build | .probe | .frameClr => some []
  | .rdCtrl | .rdFrameLen | .rdCmd | .rdErr | .rdAccX | .rdAccY | .rdAccZ | .rdGyrX | .rdGyrY | .rdGyrZ
  | .rdSelftest | .rdCrcState | .rdCrcResult | .rdCrcData8 | .rdCrcData32
  | .rdFrame0 | .rdFrame1 | .rdFrame2 | .rdFrame3 | .rdFrame4 | .rdFrame5 | .rdFrame6 => some []
  | .wrCtrl _ | .wrFrameLen _ | .wrErr _ | .wrAccX _ | .wrAccY _ | .wrAccZ _ | .wrGyrX _ | .wrGyrY _ | .wrGyrZ _
  | .wrSelftest _ | .wrCrcResult _
  | .wrFrame0 _ | .wrFrame1 _ | .wrFrame2 _ | .wrFrame3 _ | .wrFrame4 _ | .wrFrame5 _ | .wrFrame6 _ => some []

/-- The instruction the next step performs, if it performs one. -/
def nextInstr (s : State) : Option Instr :=
  match fetch s with
  | .perform i _ => some i
  | .done _ => none
  | .refuse _ => none

/-- The next step is a reset (rule R101). -/
def nextIsReset (s : State) : Prop := s.pending.head? = some .reset

/-- Issues the transactions of instructions to a machine, in order (rule R13). -/
def State.issue (s : State) (is : List Instr) : State := { s with pending := is.map Input.ofInstr }

end Sys2Proof.Machine
end

