-- ==== Sys2Proof/Certificates/Slice0/Obligations.lean ====
section
/-! DEFINITION. The statements for the provers. Each docstring names the rules of spec/ it comes from. `F i` in a
docstring is frame byte `i`, read as `FrameBuffer.at`. -/

open Sys2Proof Sys2Proof.Machine

/-! ## Encoding and decoding -/

/-- Every instruction's encoding decodes to it, with every operand at every value, and every encoding that decodes is
the encoding of what it decodes to: no bit is dropped and no two encodings share a meaning (rules R43 and R45). -/
def Obligations.DecodeInvertsEncode : Prop :=
  (∀ i : Instr, decode (encode i) = some i) ∧
    ∀ (e : Encoding) (i : Instr), decode e = some i → encode i = e

/-- Rule R43: the 44 keys and what each selects. -/
def Obligations.BusKeysSelectTheirRows : Prop :=
  ∀ w : Word,
    decodeKey 0x000#9 w = some .rdCtrl ∧ decodeKey 0x100#9 w = some (.wrCtrl w) ∧
    decodeKey 0x004#9 w = some .rdFrameLen ∧ decodeKey 0x104#9 w = some (.wrFrameLen w) ∧
    decodeKey 0x008#9 w = some .rdCmd ∧ decodeKey 0x108#9 w = some (.wrCmd w) ∧
    decodeKey 0x00C#9 w = some .rdErr ∧ decodeKey 0x10C#9 w = some (.wrErr w) ∧
    decodeKey 0x010#9 w = some .rdAccX ∧ decodeKey 0x110#9 w = some (.wrAccX w) ∧
    decodeKey 0x014#9 w = some .rdAccY ∧ decodeKey 0x114#9 w = some (.wrAccY w) ∧
    decodeKey 0x018#9 w = some .rdAccZ ∧ decodeKey 0x118#9 w = some (.wrAccZ w) ∧
    decodeKey 0x01C#9 w = some .rdGyrX ∧ decodeKey 0x11C#9 w = some (.wrGyrX w) ∧
    decodeKey 0x020#9 w = some .rdGyrY ∧ decodeKey 0x120#9 w = some (.wrGyrY w) ∧
    decodeKey 0x024#9 w = some .rdGyrZ ∧ decodeKey 0x124#9 w = some (.wrGyrZ w) ∧
    decodeKey 0x028#9 w = some .rdSelftest ∧ decodeKey 0x128#9 w = some (.wrSelftest w) ∧
    decodeKey 0x030#9 w = some .rdCrcState ∧ decodeKey 0x130#9 w = some (.wrCrcState w) ∧
    decodeKey 0x034#9 w = some .rdCrcResult ∧ decodeKey 0x134#9 w = some (.wrCrcResult w) ∧
    decodeKey 0x038#9 w = some .rdCrcData8 ∧ decodeKey 0x138#9 w = some (.wrCrcData8 w) ∧
    decodeKey 0x03C#9 w = some .rdCrcData32 ∧ decodeKey 0x13C#9 w = some (.wrCrcData32 w) ∧
    decodeKey 0x040#9 w = some .rdFrame0 ∧ decodeKey 0x140#9 w = some (.wrFrame0 w) ∧
    decodeKey 0x044#9 w = some .rdFrame1 ∧ decodeKey 0x144#9 w = some (.wrFrame1 w) ∧
    decodeKey 0x048#9 w = some .rdFrame2 ∧ decodeKey 0x148#9 w = some (.wrFrame2 w) ∧
    decodeKey 0x04C#9 w = some .rdFrame3 ∧ decodeKey 0x14C#9 w = some (.wrFrame3 w) ∧
    decodeKey 0x050#9 w = some .rdFrame4 ∧ decodeKey 0x150#9 w = some (.wrFrame4 w) ∧
    decodeKey 0x054#9 w = some .rdFrame5 ∧ decodeKey 0x154#9 w = some (.wrFrame5 w) ∧
    decodeKey 0x058#9 w = some .rdFrame6 ∧ decodeKey 0x158#9 w = some (.wrFrame6 w) ∧
    busTable.length = 44

/-- Rule R42: the checks of bus decode in their order, and that exactly one row matches each mapped key. -/
def Obligations.BusDecodeChecksInOrder : Prop :=
  (∀ a : Access,
    (a.size ≠ 4 → decodeAccess a = .error (.badSize a.offset)) ∧
    (a.size = 4 → a.offset.extractLsb' 0 2 ≠ 0#2 → decodeAccess a = .error (.misaligned a.offset)) ∧
    (a.size = 4 → a.offset.extractLsb' 0 2 = 0#2 → (∀ r ∈ busTable, r.key ≠ a.key) →
      decodeAccess a = .error (.unmapped a.offset)) ∧
    (a.size = 4 → a.offset.extractLsb' 0 2 = 0#2 → ∀ r ∈ busTable, r.key = a.key →
      decodeAccess a = .ok (r.instr a.wdata))) ∧
  ∀ r ∈ busTable, (busTable.filter fun q => q.key == r.key).length = 1

/-- The register map (rule R29) is what bus decode admits: an access is performed exactly when it is 4 bytes wide at
the offset of a register; a write to a read-only register sets `RO_WRITE` and a read of a write-only one answers 0. -/
def Obligations.RegisterMapIsWhatDecodes : Prop :=
  (∀ a : Access, (∃ i, decodeAccess a = .ok i) ↔ a.size = 4 ∧ ∃ r, a.offset = regOffset r) ∧
  (∀ (r : Reg) (w : Word) (s : State), regAccess r = .ro → ∃ i, decodeAccess (writeReg r w) = .ok i ∧
    exec i s = .next { s with block := { s.block with roWrite := true }, response := some .okay }) ∧
  ∀ (r : Reg) (s : State), regAccess r = .wo → ∃ i, decodeAccess (readReg r) = .ok i ∧
    exec i s = .next { s with response := some (.data 0x00000000#32) }

/-- Rule R45: a word selects the one row for which `(w and mask) = match`, the rows do not overlap, and a word that
matches no row is illegal. -/
def Obligations.CommandWordSelectsItsRow : Prop :=
  (∀ (w : Word) (i : Instr), decodeCommand w = some i ↔
    (w &&& 0xFFFFFFFF#32 = 0x00000000#32 ∧ i = .nop) ∨ (w &&& 0xFFFFFFFF#32 = 0x00000001#32 ∧ i = .build) ∨
    (w &&& 0xFFFFFFFF#32 = 0x00000002#32 ∧ i = .probe) ∨ (w &&& 0xFFFFFFFF#32 = 0x00000003#32 ∧ i = .frameClr) ∨
    (w &&& 0xFFFFFFFF#32 = 0x00000004#32 ∧ i = .crcInit) ∨
    (w &&& 0xFFFF00FF#32 = 0x00000005#32 ∧ i = .crcByte (w.extractLsb' 8 8))) ∧
  ∀ w : Word, (commandTable.filter fun r => w &&& r.mask == r.pattern).length ≤ 1

/-- Rules R47 and R89: which words are illegal, that NOP is 0x00000000 alone, and that an illegal word sets
`ERR.ILLEGAL_CMD`, changes nothing else and answers OKAY. -/
def Obligations.IllegalWordOnlySetsIllegalCmd : Prop :=
  (∀ w : Word, decodeCommand w = none ↔
    6 ≤ (w.extractLsb' 0 8).toNat ∨ ((w.extractLsb' 0 8).toNat ≤ 4 ∧ w.extractLsb' 8 24 ≠ 0#24) ∨
      ((w.extractLsb' 0 8).toNat = 5 ∧ w.extractLsb' 16 16 ≠ 0#16)) ∧
  (∀ w : Word, decodeCommand w = some .nop ↔ w = 0x00000000#32) ∧
  ∀ (w : Word) (s : State), decodeCommand w = none →
    exec (.wrCmd w) s = .next { s with block := { s.block with illegalCmd := true }, response := some .okay }

/-- Rule R77: a write to CMD performs the command its word selects, and sets `ILLEGAL_CMD` for a word that selects none;
either way it completes within the write. -/
def Obligations.WriteCmdPerformsTheCommand : Prop :=
  ∀ (w : Word) (s : State), decodeKey 0x108#9 w = some (.wrCmd w) ∧
    (∀ i, decodeCommand w = some i → exec (.wrCmd w) s = exec i s) ∧
    (decodeCommand w = none →
      exec (.wrCmd w) s = .next { s with block := { s.block with illegalCmd := true }, response := some .okay }) ∧
    ∃ t, exec (.wrCmd w) s = .next t ∧ t.pending = s.pending ∧ t.response = some .okay

/-- Words of the opcode table, one per family, written out from its columns, and a few that no row matches
(V14 of 95_test_vectors.md). How a row's bits lie in a word is the model's choice (log entry 13): a bus key is laid out
in 16 bits, the `wdata` of a write is then zero, so `wrAccX` and `wrCrcData32` carry `0#32`, and a 32-bit word is a
command word. -/
def Obligations.TableWordsDecode : Prop :=
  decodeTableWord 16 0x000 = some .rdCtrl ∧ decodeTableWord 16 0x110 = some (.wrAccX 0#32) ∧
  decodeTableWord 16 0x13C = some (.wrCrcData32 0#32) ∧ decodeTableWord 16 0x058 = some .rdFrame6 ∧
  decodeTableWord 32 0x00000001 = some .build ∧ decodeTableWord 32 0x00003105 = some (.crcByte 0x31#8) ∧
  decodeTableWord 32 0x00010005 = none ∧ decodeTableWord 32 0x00000101 = none ∧ decodeTableWord 16 0x02C = none

/-- Rule R49: the pseudo-instructions and the lines they stand for. -/
def Obligations.PseudoInstructionsExpand : Prop :=
  (∀ ax ay az gx gy gz st, assemble (.sample ax ay az gx gy gz st) =
    assemble (.wr .accX ax) ++ assemble (.wr .accY ay) ++ assemble (.wr .accZ az) ++ assemble (.wr .gyrX gx) ++
      assemble (.wr .gyrY gy) ++ assemble (.wr .gyrZ gz) ++ assemble (.wr .selftest st)) ∧
  (∀ b, assemble (.crcFeed8 b) = assemble (.wr .crcData8 b)) ∧
  (∀ v, assemble (.crcFeed32 v) = assemble (.wr .crcData32 v)) ∧
  assemble .rdFrame = assemble (.rd .frameLen) ++ assemble (.rd .frame0) ++ assemble (.rd .frame1) ++
    assemble (.rd .frame2) ++ assemble (.rd .frame3) ++ assemble (.rd .frame4) ++ assemble (.rd .frame5) ++
    assemble (.rd .frame6) ∧
  assemble .clrErr = assemble (.wr .err (.hex 0x00000003)) ∧
  ∀ crcEn sticky : Bool,
    assemble (.cfg crcEn sticky) = assemble (.wr .ctrl (.hex (2 * sticky.toNat + crcEn.toNat)))

/-- Rule R48: the transactions of the script syntax, and the word a literal stands for, where 32 bits (16 for a sample
register) hold it. -/
def Obligations.ScriptLinesStandForTheirTransactions : Prop :=
  (∀ r v, assemble (.wr r v) = [⟨.write (literalWord r v), regOffset r, 4⟩]) ∧
  (∀ r, assemble (.rd r) = [⟨.read, regOffset r, 4⟩]) ∧
  (∀ line i, (line, i) ∈ [(ScriptLine.nop, Instr.nop), (.build, .build), (.probe, .probe), (.frameClr, .frameClr),
      (.crcInit, .crcInit)] →
    ∃ w, assemble line = [⟨.write w, regOffset .cmd, 4⟩] ∧ decodeCommand w = some i) ∧
  (∀ b : Byte, assemble (.crcByte b) = [⟨.write (0x00000005#32 ||| (b.setWidth 32 <<< 8)), regOffset .cmd, 4⟩]) ∧
  (∀ r n, n < 2 ^ 32 → (literalWord r (.hex n)).toNat = n ∧ (literalWord r (.dec n)).toNat = n) ∧
  (∀ (r : Reg) (n : Int), n < 0 → -2 ^ 15 ≤ n → regIsSample r = true → (literalWord r (.dec n)).toNat = 2 ^ 16 + n) ∧
  (∀ (r : Reg) (n : Int), n < 0 → -2 ^ 31 ≤ n → regIsSample r = false → (literalWord r (.dec n)).toNat = 2 ^ 32 + n) ∧
  ∀ (r : Reg) (c : Char), c.toNat < 128 → (literalWord r (.chr c)).toNat = c.toNat

/-! ## The step -/

/-- A step performs the oldest pending transaction: when it decodes to an instruction, the step is that instruction's
meaning at the state with the transaction taken off the queue, whether the host gave an offset or a bus address. -/
def Obligations.StepRunsDecodedInstruction : Prop :=
  ∀ (s : State) (a : Access) (rest : List Input) (i : Instr), decodeAccess a = .ok i →
    (s.pending = .access a :: rest → step s = exec i { s with pending := rest }) ∧
    (s.pending = .busAccess (busAddress a.offset) a.dir a.size :: rest → step s = exec i { s with pending := rest })

/-- Rules R30, R34, R88 and R94: an access of a size other than 4, at a misaligned offset or at an unmapped one (0x2C,
or 0x5C and above) answers ERROR naming the offset, with no data, and changes nothing in the block. That the step then
answers a next state, from which the next transaction runs, is the model's reading of rule R94 (log entry 3). -/
def Obligations.BadAccessAnswersBusError : Prop :=
  ∀ (s : State) (a : Access) (rest : List Input), s.pending = .access a :: rest →
    a.size ≠ 4 ∨ a.offset.extractLsb' 0 2 ≠ 0#2 ∨ a.offset = 0x2C#8 ∨ 0x5C ≤ a.offset.toNat →
    step s = .next { s with pending := rest, response := some (.error (.busError a.offset)) }

/-- With nothing pending a step changes nothing. The model's choice (log entry 4), from rule R3's sentence that the block
"only responds to host transactions and never starts one". -/
def Obligations.IdleBlockChangesNothing : Prop :=
  ∀ s : State, s.pending = [] → step s = .next s

/-- Rule R98 and I17 of 93_implementation_defined.md: an access of a second bus master, and a reset in the middle of a
transaction, are refused by name. -/
def Obligations.SecondMasterAndTornResetRefused : Prop :=
  ∀ (s : State) (a : Access) (rest : List Input),
    (s.pending = .otherMaster a :: rest → step s = .refused .secondMaster) ∧
    (s.pending = .resetInside a :: rest → step s = .refused .resetInsideAccess)

/-- Every step answers a next state, but for the three inputs it refuses by name. Rule R87 has no other transaction
outcome that is an error. The rest is the model's choice: a BusError is a next state and not a fault, so no step faults
(log entry 3); a step with nothing pending answers a next state (log entry 4); a second master and a torn reset stand
among the inputs and are refused (log entry 5, after rule R98 and I17); an address outside the window is refused (log
entry 6). -/
def Obligations.StepStopsOnlyAtRefusedInputs : Prop :=
  ∀ s : State, (∃ t, step s = .next t) ∨
    (step s = .refused .secondMaster ∧ ∃ a rest, s.pending = .otherMaster a :: rest) ∨
    (step s = .refused .resetInsideAccess ∧ ∃ a rest, s.pending = .resetInside a :: rest) ∨
    ∃ addr dir size rest, step s = .refused (.outsideWindow addr) ∧
      s.pending = .busAccess addr dir size :: rest ∧
      (addr < Config.blockBase ∨ Config.blockBase + 256 ≤ addr)

/-- Rules R6 and R28: the block is seen at `BLOCK_BASE + offset`, for every base the platform may choose, and at no
other address; a transaction at a bus address of the window is the transaction at its offset. The model's choice: an
address outside the window is refused (log entry 6; rule R30 leaves it to the platform), and an access of any size
belongs to the window, or lies outside it, by the address it starts at (log entry 11). -/
def Obligations.WindowIsSeenAtBlockBase : Prop :=
  256 ∣ Config.blockBase ∧
  (∀ off : Offset, windowOffset (Config.blockBase + off.toNat) = some off) ∧
  (∀ (addr : Nat) (off : Offset), windowOffset addr = some off → addr = Config.blockBase + off.toNat) ∧
  (∀ (s : State) (off : Offset) (dir : Direction) (size : Nat) (rest : List Input),
    step { s with pending := .busAccess (Config.blockBase + off.toNat) dir size :: rest } =
      step { s with pending := .access ⟨dir, off, size⟩ :: rest }) ∧
  ∀ (s : State) (addr : Nat) (dir : Direction) (size : Nat) (rest : List Input),
    s.pending = .busAccess addr dir size :: rest → addr < Config.blockBase ∨ Config.blockBase + 256 ≤ addr →
    step s = .refused (.outsideWindow addr)

/-- Rule R107's three examples: the effect of a transaction is visible to the very next one. -/
def Obligations.EffectVisibleToNextTransaction : Prop :=
  ∀ s : State,
    (∃ t w, core.run 2 (s.issue [.build, .rdFrame0]) = .next t ∧ t.response = some (.data w) ∧
      w.extractLsb' 0 8 = 0x7E#8 ∧ w.extractLsb' 8 8 = s.block.samples[0].extractLsb' 0 8 ∧
      w.extractLsb' 16 8 = s.block.samples[0].extractLsb' 8 8 ∧
      w.extractLsb' 24 8 = s.block.samples[1].extractLsb' 0 8) ∧
    (∀ v : Word, ∃ t, core.run 2 (s.issue [.wrCrcData32 v, .rdCrcResult]) = .next t ∧
      t.response = some (.data (crcFeed s.block.crcState (le32 v) ^^^ 0xFFFFFFFF#32))) ∧
    ∀ v : Word, ∃ t, core.run 2 (s.issue [.wrCtrl v, .build]) = .next t ∧
      t.block.len = if v.getLsbD 0 then 27#8 else 23#8

/-! ## Reset -/

/-- Rule R101: reset sets every component of the block to its reset value, and no component is left unspecified. It
happens between transactions only. -/
def Obligations.ResetSetsEveryComponent : Prop :=
  (∀ (s : State) (rest : List Input), s.pending = .reset :: rest →
    ∃ t, step s = .next t ∧ t.block = State.reset.block) ∧
  (∀ (s : State) (a : Access) (rest : List Input), s.pending = .resetInside a :: rest → ∀ t, step s ≠ .next t) ∧
  State.reset.block.crcEn = false ∧ State.reset.block.stickySt = false ∧ State.reset.block.len = 0#8 ∧
  State.reset.block.illegalCmd = false ∧ State.reset.block.roWrite = false ∧
  (∀ i : Fin 6, State.reset.block.samples[i] = 0#16) ∧
  State.reset.block.agPass = false ∧ State.reset.block.magPass = false ∧
  State.reset.block.crcState = 0xFFFFFFFF#32 ∧
  ∀ j : Fin 27, State.reset.block.frame[j] = 0#8

/-- Rule R102: what the host reads right after reset. -/
def Obligations.ReadsRightAfterReset : Prop :=
  ∀ s : State, s.block = State.reset.block →
    (∀ i ∈ [Instr.rdCtrl, .rdFrameLen, .rdCmd, .rdErr, .rdAccX, .rdAccY, .rdAccZ, .rdGyrX, .rdGyrY, .rdGyrZ,
        .rdSelftest, .rdCrcResult, .rdCrcData8, .rdCrcData32, .rdFrame0, .rdFrame1, .rdFrame2, .rdFrame3, .rdFrame4,
        .rdFrame5, .rdFrame6],
      exec i s = .next { s with response := some (.data 0x00000000#32) }) ∧
    exec .rdCrcState s = .next { s with response := some (.data 0xFFFFFFFF#32) }

/-! ## Reads -/

/-- No read has a side effect (rule R36): every instruction that is encoded as a read answers a word and changes
nothing, so repeating it gives the same word. -/
def Obligations.ReadsHaveNoSideEffect : Prop :=
  ∀ (i : Instr) (off : Offset), encode i = .read off → ∀ s : State, ∃ w,
    exec i s = .next { s with response := some (.data w) } ∧
    exec i { s with response := some (.data w) } = .next { s with response := some (.data w) }

/-- Rule R73: RD CTRL answers `CRC_EN` in bit 0, `STICKY_ST` in bit 1 and 0 in bits 31:2, and changes nothing. -/
def Obligations.ReadCtrl : Prop :=
  (∀ w, decodeKey 0x000#9 w = some .rdCtrl) ∧
  ∀ s : State, ∃ w : Word, exec .rdCtrl s = .next { s with response := some (.data w) } ∧
    w.getLsbD 0 = s.block.crcEn ∧ w.getLsbD 1 = s.block.stickySt ∧ w.extractLsb' 2 30 = 0#30

/-- Rule R75: RD FRAME_LEN answers `LEN` zero-extended and changes nothing. -/
def Obligations.ReadFrameLen : Prop :=
  (∀ w, decodeKey 0x004#9 w = some .rdFrameLen) ∧
  ∀ s : State, ∃ w : Word, exec .rdFrameLen s = .next { s with response := some (.data w) } ∧
    w.toNat = s.block.len.toNat

/-- Rules R23 and R76: RD FRAMEk puts frame byte `4k+j` in lane `j`, and 0x00 for byte 27, whatever `LEN` is, and changes
nothing. -/
def Obligations.ReadFrameWindow : Prop :=
  ∀ (s : State) (k : Nat) (key : BusKey) (i : Instr),
    (k, key, i) ∈ [(0, 0x040#9, Instr.rdFrame0), (1, 0x044#9, .rdFrame1), (2, 0x048#9, .rdFrame2),
      (3, 0x04C#9, .rdFrame3), (4, 0x050#9, .rdFrame4), (5, 0x054#9, .rdFrame5), (6, 0x058#9, .rdFrame6)] →
    (∀ w, decodeKey key w = some i) ∧ ∃ w : Word, exec i s = .next { s with response := some (.data w) } ∧
      ∀ j < 4, w.extractLsb' (8 * j) 8 = (s.block.frame[4 * k + j]?).getD 0x00#8

/-- Rule R78: a read of CMD, CRC_DATA8 or CRC_DATA32 answers 0 and changes nothing. -/
def Obligations.ReadWriteOnlyRegister : Prop :=
  ∀ (s : State) (key : BusKey) (i : Instr),
    (key, i) ∈ [(0x008#9, Instr.rdCmd), (0x038#9, .rdCrcData8), (0x03C#9, .rdCrcData32)] →
    (∀ w, decodeKey key w = some i) ∧ exec i s = .next { s with response := some (.data 0x00000000#32) }

/-- Rule R80: RD ERR answers `ILLEGAL_CMD` in bit 0, `RO_WRITE` in bit 1 and 0 in bits 31:2, and does not clear them. -/
def Obligations.ReadErr : Prop :=
  (∀ w, decodeKey 0x00C#9 w = some .rdErr) ∧
  ∀ s : State, ∃ w : Word, exec .rdErr s = .next { s with response := some (.data w) } ∧
    w.getLsbD 0 = s.block.illegalCmd ∧ w.getLsbD 1 = s.block.roWrite ∧ w.extractLsb' 2 30 = 0#30

/-- Rule R82: a read of sample register `i` answers `S[i]` zero-extended, never sign-extended, and changes nothing. -/
def Obligations.ReadSample : Prop :=
  ∀ (s : State) (k : Fin 6) (key : BusKey) (i : Instr),
    (k, key, i) ∈ [((0 : Fin 6), 0x010#9, Instr.rdAccX), (1, 0x014#9, .rdAccY), (2, 0x018#9, .rdAccZ),
      (3, 0x01C#9, .rdGyrX), (4, 0x020#9, .rdGyrY), (5, 0x024#9, .rdGyrZ)] →
    (∀ w, decodeKey key w = some i) ∧ ∃ w : Word, exec i s = .next { s with response := some (.data w) } ∧
      w.toNat = s.block.samples[k].toNat

/-- Rule R84: RD SELFTEST answers `AG_PASS` in bit 0, `MAG_PASS` in bit 1 and 0 in bits 31:2, and changes nothing. -/
def Obligations.ReadSelftest : Prop :=
  (∀ w, decodeKey 0x028#9 w = some .rdSelftest) ∧
  ∀ s : State, ∃ w : Word, exec .rdSelftest s = .next { s with response := some (.data w) } ∧
    w.getLsbD 0 = s.block.agPass ∧ w.getLsbD 1 = s.block.magPass ∧ w.extractLsb' 2 30 = 0#30

/-- Rules R68 and R70: RD CRC_STATE answers the raw register and RD CRC_RESULT its exclusive or with 0xFFFFFFFF; neither
changes anything. -/
def Obligations.ReadCrcStateAndResult : Prop :=
  (∀ w, decodeKey 0x030#9 w = some .rdCrcState ∧ decodeKey 0x034#9 w = some .rdCrcResult) ∧ ∀ s : State,
    exec .rdCrcState s = .next { s with response := some (.data s.block.crcState) } ∧
    exec .rdCrcResult s = .next { s with response := some (.data (s.block.crcState ^^^ 0xFFFFFFFF#32)) }

/-! ## Writes -/

/-- Rule R74: WR CTRL takes `CRC_EN` and `STICKY_ST` from `wdata[1:0]` and changes nothing else, the frame included. -/
def Obligations.WriteCtrl : Prop :=
  ∀ (s : State) (w : Word), decodeKey 0x100#9 w = some (.wrCtrl w) ∧ exec (.wrCtrl w) s = .next
    { s with block := { s.block with crcEn := w.getLsbD 0, stickySt := w.getLsbD 1 }, response := some .okay }

/-- Rules R79 and R90: a write to FRAME_LEN, CRC_RESULT or FRAMEk, of any value, sets `RO_WRITE`, changes nothing else and
answers OKAY. -/
def Obligations.WriteReadOnlyRegister : Prop :=
  ∀ (s : State) (w : Word) (key : BusKey) (i : Instr),
    (key, i) ∈ [(0x104#9, Instr.wrFrameLen w), (0x134#9, .wrCrcResult w), (0x140#9, .wrFrame0 w),
      (0x144#9, .wrFrame1 w), (0x148#9, .wrFrame2 w), (0x14C#9, .wrFrame3 w), (0x150#9, .wrFrame4 w),
      (0x154#9, .wrFrame5 w), (0x158#9, .wrFrame6 w)] →
    decodeKey key w = some i ∧
      exec i s = .next { s with block := { s.block with roWrite := true }, response := some .okay }

/-- Rule R81: WR ERR clears exactly the ERR bits written as 1 and changes nothing else; bits 31:2 are ignored. -/
def Obligations.WriteErr : Prop :=
  ∀ (s : State) (w : Word), decodeKey 0x10C#9 w = some (.wrErr w) ∧ exec (.wrErr w) s = .next
    { s with
      block := { s.block with
        illegalCmd := s.block.illegalCmd && !w.getLsbD 0
        roWrite := s.block.roWrite && !w.getLsbD 1 }
      response := some .okay }

/-- Rule R83: a write of sample register `i` stores `wdata[15:0]` in `S[i]`, drops bits 31:16 and changes nothing else, the
other samples and the frame included. -/
def Obligations.WriteSample : Prop :=
  ∀ (s : State) (w : Word) (k : Fin 6) (key : BusKey) (i : Instr),
    (k, key, i) ∈ [((0 : Fin 6), 0x110#9, Instr.wrAccX w), (1, 0x114#9, .wrAccY w), (2, 0x118#9, .wrAccZ w),
      (3, 0x11C#9, .wrGyrX w), (4, 0x120#9, .wrGyrY w), (5, 0x124#9, .wrGyrZ w)] →
    decodeKey key w = some i ∧ ∃ t, exec i s = .next t ∧ t.response = some .okay ∧ t.pending = s.pending ∧
      t.block = { s.block with samples := t.block.samples } ∧
      t.block.samples[k].toNat = w.toNat % 65536 ∧ ∀ j : Fin 6, j ≠ k → t.block.samples[j] = s.block.samples[j]

/-- Rule R85: WR SELFTEST takes `AG_PASS` and `MAG_PASS` from `wdata[1:0]` and changes nothing else, the frame included. -/
def Obligations.WriteSelftest : Prop :=
  ∀ (s : State) (w : Word), decodeKey 0x128#9 w = some (.wrSelftest w) ∧ exec (.wrSelftest w) s = .next
    { s with block := { s.block with agPass := w.getLsbD 0, magPass := w.getLsbD 1 }, response := some .okay }

/-- The table of rule R36: repeating an instruction that performs none of CRC_BYTE, WR CRC_DATA8 and WR CRC_DATA32
leaves the state the first one gave, in either self-test mode; each of those three changes `CRC_STATE` again somewhere. -/
def Obligations.RepeatingAnAccessIsIdempotent : Prop :=
  (∀ (i : Instr) (s t : State), (∀ b, i ≠ .crcByte b) → (∀ w, i ≠ .wrCrcData8 w) → (∀ w, i ≠ .wrCrcData32 w) →
    (∀ w b, i = .wrCmd w → decodeCommand w ≠ some (.crcByte b)) →
    exec i s = .next t → exec i t = .next t) ∧
  ∀ i ∈ [Instr.crcByte 0x00#8, .wrCrcData8 0x00000000#32, .wrCrcData32 0x00000000#32],
    ∃ s t u, exec i s = .next t ∧ exec i t = .next u ∧ u.block.crcState ≠ t.block.crcState

/-! ## The CRC-32 function and the streaming engine -/

/-- Rule R61: the byte step is exclusive or with the byte and then eight bit steps, least significant bit first. -/
def Obligations.CrcStepIsBitSerial : Prop :=
  ∀ (s : Word) (b : Byte), crcStep8 s b =
    (List.replicate 8 ()).foldl
      (fun r _ => if r.getLsbD 0 then (r >>> 1) ^^^ 0xEDB88320#32 else r >>> 1) (s ^^^ b.setWidth 32)

/-- Rule R62: the table form of the byte step is the same function for every `s` and `b`, and the key entries of the
table are as the rule gives them. -/
def Obligations.CrcTableFormAgrees : Prop :=
  (∀ n : Byte, crcTable n = crcStep8 0x00000000#32 n) ∧
  (∀ (s : Word) (b : Byte),
    crcStep8 s b = (s >>> 8) ^^^ crcTable ((s ^^^ b.setWidth 32).extractLsb' 0 8)) ∧
  crcTable 0#8 = 0x00000000#32 ∧ crcTable 1#8 = 0x77073096#32 ∧ crcTable 128#8 = 0xEDB88320#32 ∧
  crcTable 255#8 = 0x2D02EF8D#32

/-- Rule R63: the CRC-32 of a byte sequence, of no bytes, and the check value, and that it is the function of BUILD's
trailer. -/
def Obligations.Crc32AndItsCheckValue : Prop :=
  (∀ bytes : List Byte, crc32 bytes = bytes.foldl crcStep8 0xFFFFFFFF#32 ^^^ 0xFFFFFFFF#32) ∧
  crc32 [] = 0x00000000#32 ∧
  crc32 [0x31#8, 0x32#8, 0x33#8, 0x34#8, 0x35#8, 0x36#8, 0x37#8, 0x38#8, 0x39#8] = 0xCBF43926#32 ∧
  ∀ s : State, s.block.crcEn = true → ∃ t, exec .build s = .next t ∧ ∀ j < 4,
    FrameBuffer.at t.block.frame (23 + j) = byteLane (crc32 (FrameBuffer.first t.block.frame 23)) j

/-- Rules R64 and R69: CRC_INIT and WR CRC_STATE set `CRC_STATE` and change nothing else. -/
def Obligations.CrcInitAndWriteCrcState : Prop :=
  decodeCommand 0x00000004#32 = some .crcInit ∧ (∀ w, decodeKey 0x130#9 w = some (.wrCrcState w)) ∧ ∀ s : State,
    exec .crcInit s = .next { s with block := { s.block with crcState := 0xFFFFFFFF#32 }, response := some .okay } ∧
    ∀ w : Word,
      exec (.wrCrcState w) s = .next { s with block := { s.block with crcState := w }, response := some .okay }

/-- Rules R65 and R66: CRC_BYTE feeds its byte and WR CRC_DATA8 feeds `wdata[7:0]`; each changes `CRC_STATE` alone. -/
def Obligations.CrcByteAndData8FeedOneByte : Prop :=
  (∀ b : Byte, decodeCommand (0x00000005#32 ||| (b.setWidth 32 <<< 8)) = some (.crcByte b)) ∧
  (∀ w : Word, w.extractLsb' 0 8 = 0x05#8 → w.extractLsb' 16 16 ≠ 0#16 → decodeCommand w = none) ∧
  (∀ w, decodeKey 0x138#9 w = some (.wrCrcData8 w)) ∧ ∀ s : State,
    (∀ b : Byte, exec (.crcByte b) s = .next
      { s with block := { s.block with crcState := crcStep8 s.block.crcState b }, response := some .okay }) ∧
    ∀ w : Word, exec (.wrCrcData8 w) s = .next
      { s with block := { s.block with crcState := crcStep8 s.block.crcState (w.extractLsb' 0 8) },
               response := some .okay }

/-- Rule R67: WR CRC_DATA32 feeds four bytes, lane 0 first, and changes `CRC_STATE` alone. -/
def Obligations.CrcData32FeedsFourBytes : Prop :=
  ∀ (s : State) (w : Word), decodeKey 0x13C#9 w = some (.wrCrcData32 w) ∧ exec (.wrCrcData32 w) s = .next
    { s with
      block := { s.block with
        crcState := crcStep8 (crcStep8 (crcStep8 (crcStep8 s.block.crcState (w.extractLsb' 0 8)) (w.extractLsb' 8 8))
          (w.extractLsb' 16 8)) (w.extractLsb' 24 8) }
      response := some .okay }

/-- Rule R71: after CRC_INIT, or in a block that was just reset, and any mix of transactions that feed bytes, with
others that leave `CRC_STATE` alone among them and no WR CRC_STATE, RD CRC_RESULT answers `crc32` of the bytes fed, in
order. The transactions are those the host issues, so a command is a write to CMD. -/
def Obligations.StreamingEqualsOneShot : Prop :=
  ∀ (s : State) (is : List Instr) (fed : List (List Byte)), is.map feedOf = fed.map some →
    (∃ t, core.run (is.length + 2) (s.issue (.crcInit :: (is ++ [.rdCrcResult]))) = .next t ∧
      t.response = some (.data (crc32 fed.flatten))) ∧
    (s.block = State.reset.block →
      ∃ t, core.run (is.length + 1) (s.issue (is ++ [.rdCrcResult])) = .next t ∧
        t.response = some (.data (crc32 fed.flatten)))

/-- Rule R72: feeding any message and then `le32` of its CRC-32 from CRC_INIT leaves `CRC_STATE = 0xDEBB20E3` and CRC_RESULT
0x2144DF1C; so does a 27-byte frame with trailer. -/
def Obligations.ReceiverCheckResidue : Prop :=
  (∀ (s : State) (m : List Byte), ∃ t u,
    core.run (m.length + 5) (s.issue (.crcInit :: (m ++ le32 (crc32 m)).map Instr.crcByte)) = .next t ∧
    t.block.crcState = 0xDEBB20E3#32 ∧
    exec .rdCrcResult t = .next u ∧ u.response = some (.data 0x2144DF1C#32)) ∧
  ∀ s : State, s.block.crcEn = true → ∃ t, exec .build s = .next t ∧ t.block.len = 27#8 ∧
    crcFeed 0xFFFFFFFF#32 t.block.offeredFrame = 0xDEBB20E3#32 ∧
    le32 (crc32 (FrameBuffer.first t.block.frame 23)) =
      [FrameBuffer.at t.block.frame 23, FrameBuffer.at t.block.frame 24, FrameBuffer.at t.block.frame 25,
        FrameBuffer.at t.block.frame 26]

/-- Rule R110 and decision D13: only CRC_INIT, CRC_BYTE, WR CRC_STATE, WR CRC_DATA8, WR CRC_DATA32 and reset change
`CRC_STATE`; BUILD's trailer never disturbs it. -/
def Obligations.OnlyCrcOperationsChangeCrcState : Prop :=
  ∀ s t : State, step s = .next t → t.block.crcState ≠ s.block.crcState →
    nextIsReset s ∨ ∃ w, nextInstr s = some (.wrCrcState w) ∨ nextInstr s = some (.wrCrcData8 w) ∨
      nextInstr s = some (.wrCrcData32 w) ∨
      (nextInstr s = some (.wrCmd w) ∧ (w = 0x00000004#32 ∨ w &&& 0xFFFF00FF#32 = 0x00000005#32))

/-! ## The frame encoder -/

/-- Rules R51 to R54: BUILD writes the marker, the six samples low byte first, zero reserved bytes, the two self-test bytes
as `STICKY_ST` says, and either the CRC-32 of bytes 0 to 22 with `LEN = 27` or four zero bytes with `LEN = 23`. It changes
nothing else and answers OKAY. -/
def Obligations.BuildEncodesTheInputs : Prop :=
  decodeCommand 0x00000001#32 = some .build ∧
  ∀ s : State, ∃ t, exec .build s = .next t ∧ t.response = some .okay ∧ t.pending = s.pending ∧
    t.block = { s.block with frame := t.block.frame, len := t.block.len } ∧
    FrameBuffer.at t.block.frame 0 = 0x7E#8 ∧
    (∀ i : Fin 6, FrameBuffer.at t.block.frame (1 + 2 * i.val) = s.block.samples[i].extractLsb' 0 8 ∧
      FrameBuffer.at t.block.frame (2 + 2 * i.val) = s.block.samples[i].extractLsb' 8 8) ∧
    (∀ j, 13 ≤ j → j ≤ 20 → FrameBuffer.at t.block.frame j = 0x00#8) ∧
    (s.block.stickySt = false →
      FrameBuffer.at t.block.frame 21 = (if s.block.agPass then 0x01#8 else 0x00#8) ∧
      FrameBuffer.at t.block.frame 22 = (if s.block.magPass then 0x01#8 else 0x00#8)) ∧
    (s.block.stickySt = true →
      FrameBuffer.at t.block.frame 21 = (if s.block.agPass then 0x01#8 else FrameBuffer.at s.block.frame 21) ∧
      FrameBuffer.at t.block.frame 22 = (if s.block.magPass then 0x01#8 else FrameBuffer.at s.block.frame 22)) ∧
    (s.block.crcEn = true → t.block.len = 27#8 ∧
      ∀ j < 4, FrameBuffer.at t.block.frame (23 + j) =
        (crc32 (FrameBuffer.first t.block.frame 23)).extractLsb' (8 * j) 8) ∧
    (s.block.crcEn = false → t.block.len = 23#8 ∧ ∀ j < 4, FrameBuffer.at t.block.frame (23 + j) = 0x00#8)

/-- Rule R55: PROBE writes `F[0]` and `LEN`, keeps bytes 1 to 26, changes nothing else and answers OKAY. -/
def Obligations.ProbeMakesTheProbeFrame : Prop :=
  decodeCommand 0x00000002#32 = some .probe ∧
  ∀ s : State, ∃ t, exec .probe s = .next t ∧ t.response = some .okay ∧ t.pending = s.pending ∧
    t.block = { s.block with frame := t.block.frame, len := 1#8 } ∧
    FrameBuffer.at t.block.frame 0 = 0xAA#8 ∧
    ∀ j, 1 ≤ j → j ≤ 26 → FrameBuffer.at t.block.frame j = FrameBuffer.at s.block.frame j

/-- Rule R56: FRAME_CLR writes 0 to every frame byte and to `LEN`, changes nothing else and answers OKAY. -/
def Obligations.FrameClrClearsTheBuffer : Prop :=
  decodeCommand 0x00000003#32 = some .frameClr ∧
  ∀ s : State, ∃ t, exec .frameClr s = .next t ∧ t.response = some .okay ∧ t.pending = s.pending ∧
    t.block = { s.block with frame := t.block.frame, len := 0#8 } ∧
    ∀ j : Fin 27, t.block.frame[j] = 0x00#8

/-- Rule R57: NOP changes nothing and answers OKAY; a word with OP 0x00 and any of bits 31:8 set is illegal instead. -/
def Obligations.NopChangesNothing : Prop :=
  decodeCommand 0x00000000#32 = some .nop ∧ (∀ s : State, exec .nop s = .next { s with response := some .okay }) ∧
  ∀ w : Word, w.extractLsb' 0 8 = 0x00#8 → w.extractLsb' 8 24 ≠ 0#24 → decodeCommand w = none

/-- Rule R58: after BUILD the receiver's decode of each sample field is the sample, as a signed number. -/
def Obligations.DecodingAFrameRecoversTheSamples : Prop :=
  ∀ s : State, ∃ t, exec .build s = .next t ∧ ∀ i : Fin 6,
    (BitVec.ofNat 16 ((FrameBuffer.at t.block.frame (2 + 2 * i.val)).toNat * 256 +
      (FrameBuffer.at t.block.frame (1 + 2 * i.val)).toNat)).toInt = s.block.samples[i].toInt

/-- Rules R50 and R59: after BUILD the offered frame has 23 or 27 bytes by `CRC_EN` alone and begins with 0x7E; after PROBE
it is the one byte 0xAA; after FRAME_CLR there is none. -/
def Obligations.OfferedFrameLengthAndMarker : Prop :=
  ∀ s : State,
    (∃ t, exec .build s = .next t ∧ t.block.len = (if s.block.crcEn then 27#8 else 23#8) ∧
      t.block.offeredFrame.length = t.block.len.toNat ∧ t.block.offeredFrame.head? = some 0x7E#8) ∧
    (∃ t, exec .probe s = .next t ∧ t.block.offeredFrame = [0xAA#8]) ∧
    ∃ t, exec .frameClr s = .next t ∧ t.block.offeredFrame = []

/-- Rule R24 and rule R15: only BUILD, PROBE, FRAME_CLR and reset change the frame buffer or `LEN`. -/
def Obligations.OnlyFrameCommandsChangeTheFrame : Prop :=
  ∀ s t : State, step s = .next t → t.block.frame ≠ s.block.frame ∨ t.block.len ≠ s.block.len →
    nextIsReset s ∨ ∃ w, nextInstr s = some (.wrCmd w) ∧
      (w = 0x00000001#32 ∨ w = 0x00000002#32 ∨ w = 0x00000003#32)

/-- Rules R14, R18, R19 and R109: only its own register's write and reset change a configuration bit, a self-test input or a
sample, so BUILD encodes what the host wrote last. -/
def Obligations.OnlyTheirWritesChangeTheInputs : Prop :=
  ∀ s t : State, step s = .next t → ¬ nextIsReset s →
    (t.block.crcEn ≠ s.block.crcEn ∨ t.block.stickySt ≠ s.block.stickySt → ∃ w, nextInstr s = some (.wrCtrl w)) ∧
    (t.block.agPass ≠ s.block.agPass ∨ t.block.magPass ≠ s.block.magPass → ∃ w, nextInstr s = some (.wrSelftest w)) ∧
    (t.block.samples[0] ≠ s.block.samples[0] → ∃ w, nextInstr s = some (.wrAccX w)) ∧
    (t.block.samples[1] ≠ s.block.samples[1] → ∃ w, nextInstr s = some (.wrAccY w)) ∧
    (t.block.samples[2] ≠ s.block.samples[2] → ∃ w, nextInstr s = some (.wrAccZ w)) ∧
    (t.block.samples[3] ≠ s.block.samples[3] → ∃ w, nextInstr s = some (.wrGyrX w)) ∧
    (t.block.samples[4] ≠ s.block.samples[4] → ∃ w, nextInstr s = some (.wrGyrY w)) ∧
    (t.block.samples[5] ≠ s.block.samples[5] → ∃ w, nextInstr s = some (.wrGyrZ w))

/-- Rules R17 and R94: an ERR bit is set only by its own error and, once set, falls only when the host writes 1 to it or the
block is reset. -/
def Obligations.ErrBitsAreSticky : Prop :=
  ∀ s t : State, step s = .next t →
    (s.block.illegalCmd = false → t.block.illegalCmd = true →
      ∃ w, nextInstr s = some (.wrCmd w) ∧ decodeCommand w = none) ∧
    (s.block.illegalCmd = true → t.block.illegalCmd = false →
      nextIsReset s ∨ ∃ w, nextInstr s = some (.wrErr w) ∧ w.getLsbD 0 = true) ∧
    (s.block.roWrite = false → t.block.roWrite = true →
      ∃ w i, nextInstr s = some i ∧ i ∈ [Instr.wrFrameLen w, .wrCrcResult w, .wrFrame0 w, .wrFrame1 w, .wrFrame2 w,
        .wrFrame3 w, .wrFrame4 w, .wrFrame5 w, .wrFrame6 w]) ∧
    (s.block.roWrite = true → t.block.roWrite = false →
      nextIsReset s ∨ ∃ w, nextInstr s = some (.wrErr w) ∧ w.getLsbD 1 = true)

/-- Rule R26: with `STICKY_ST = 1` a self-test byte that shows a Pass keeps it through every step but FRAME_CLR and reset. -/
def Obligations.StickyPassSurvives : Prop :=
  ∀ s t : State, step s = .next t → s.block.stickySt = true → ∀ j, j = 21 ∨ j = 22 →
    FrameBuffer.at s.block.frame j = 0x01#8 →
    FrameBuffer.at t.block.frame j = 0x01#8 ∨ nextIsReset s ∨ nextInstr s = some (.wrCmd 0x00000003#32)

/-- Rule R26: with `STICKY_ST = 0` the frame carries no history: BUILD gives the same bytes and `LEN` from any two states with
the same inputs, whatever their frame buffers, ERR bits and `CRC_STATE` hold. -/
def Obligations.BuildWithoutStickyHasNoHistory : Prop :=
  ∀ s t : State, s.block.stickySt = false → t.block.stickySt = false → s.block.samples = t.block.samples →
    s.block.agPass = t.block.agPass → s.block.magPass = t.block.magPass → s.block.crcEn = t.block.crcEn →
    ∃ s' t', exec .build s = .next s' ∧ exec .build t = .next t' ∧ s'.block.frame = t'.block.frame ∧
      s'.block.len = t'.block.len

/-- Rule R106: FRAME_CLR before BUILD makes bytes 21 and 22 show the latest outcome alone, in either self-test mode. -/
def Obligations.FrameClrBeforeBuildGivesFreshFlags : Prop :=
  ∀ s : State, ∃ t, core.run 2 (s.issue [.frameClr, .build]) = .next t ∧
    FrameBuffer.at t.block.frame 21 = (if s.block.agPass then 0x01#8 else 0x00#8) ∧
    FrameBuffer.at t.block.frame 22 = (if s.block.magPass then 0x01#8 else 0x00#8)

/-- Rules R50 and R105: one steady-state iteration, from any state. The host writes the six samples and SELFTEST and issues
BUILD; the frame then offered is the marker, the six values `le16` in field order, eight zero bytes and the two outcomes, for
any state with the trailer off and the hardened self-test bytes. -/
def Obligations.SteadyStateIterationFrame : Prop :=
  ∀ (s : State) (ax ay az gx gy gz st : Word), s.block.crcEn = false → s.block.stickySt = false →
    ∃ t, core.run 8 (s.issue [.wrAccX ax, .wrAccY ay, .wrAccZ az, .wrGyrX gx, .wrGyrY gy, .wrGyrZ gz, .wrSelftest st,
        .build]) = .next t ∧
      t.block.offeredFrame = [0x7E#8, ax.extractLsb' 0 8, ax.extractLsb' 8 8, ay.extractLsb' 0 8, ay.extractLsb' 8 8,
        az.extractLsb' 0 8, az.extractLsb' 8 8, gx.extractLsb' 0 8, gx.extractLsb' 8 8, gy.extractLsb' 0 8,
        gy.extractLsb' 8 8, gz.extractLsb' 0 8, gz.extractLsb' 8 8, 0#8, 0#8, 0#8, 0#8, 0#8, 0#8, 0#8, 0#8,
        if st.getLsbD 0 then 1#8 else 0#8, if st.getLsbD 1 then 1#8 else 0#8]

/-- Rule R104: the Startup sequence. PROBE, then RD FRAME_LEN answers 1, then RD FRAME0 answers a word whose bits 7:0 are
0xAA. -/
def Obligations.StartupProbeSequence : Prop :=
  ∀ s : State, ∃ t u w,
    core.run 2 (s.issue [.probe, .rdFrameLen, .rdFrame0]) = .next t ∧ t.response = some (.data 0x00000001#32) ∧
    core.run 3 (s.issue [.probe, .rdFrameLen, .rdFrame0]) = .next u ∧ u.response = some (.data w) ∧
    w.extractLsb' 0 8 = 0xAA#8

/-! ## The invariants of rule R27 -/

/-- The reset block meets the invariants of rule R27. -/
def Obligations.ResetMeetsFrameInvariants : Prop :=
  Block.Inv State.reset.block

/-- Every step keeps the invariants of rule R27, from any state that meets them, whatever is pending. -/
def Obligations.StepKeepsFrameInvariants : Prop :=
  ∀ s t : State, Block.Inv s.block → step s = .next t → Block.Inv t.block

/-- Rule R27: every reachable state meets the invariants, for every sequence of transactions and resets the block may be
given from reset. That the sequence stands in `pending` beside the reset block is how a program comes to run in the
model (log entry 1). -/
def Obligations.ReachableBlocksMeetFrameInvariants : Prop :=
  ∀ (script : List Input) (n : Nat) (t : State),
    core.run n { State.reset with pending := script } = .next t → Block.Inv t.block
end

