-- ==== Sys2Proof/Laws/Config.lean ====
section
/-! SUPPORT. The parameters of rule R6 as numerals, for `simp` and `omega`. -/

namespace Sys2Proof

@[simp] theorem Config.marker_val : Config.marker = 0x7E#8 := rfl
@[simp] theorem Config.probeByte_val : Config.probeByte = 0xAA#8 := rfl
@[simp] theorem Config.frameBytes_val : Config.frameBytes = 23#8 := rfl
@[simp] theorem Config.frameBytesCrc_val : Config.frameBytesCrc = 27#8 := rfl
@[simp] theorem Config.probeBytes_val : Config.probeBytes = 1#8 := rfl
@[simp] theorem Config.crcSpan_val : Config.crcSpan = 23 := rfl
@[simp] theorem Config.crcPoly_val : Config.crcPoly = 0xEDB88320#32 := rfl
@[simp] theorem Config.crcInit_val : Config.crcInit = 0xFFFFFFFF#32 := rfl
@[simp] theorem Config.crcXorOut_val : Config.crcXorOut = 0xFFFFFFFF#32 := rfl
@[simp] theorem Config.windowBytes_val : Config.windowBytes = 256 := rfl

/-- `BLOCK_BASE` is a multiple of 256 whatever the platform chose (rule R6). -/
theorem Config.blockBase_eq : Config.blockBase = 256 * Config.blockPage := rfl

end Sys2Proof
end

