-- ==== Sys2Proof/Laws/Crc.lean ====
section
/-! SUPPORT. The CRC byte step: how it is folded over a message, and that it is linear over exclusive or, which is what
makes its table form possible. -/

namespace Sys2Proof.Machine

@[simp] theorem crcFeed_nil (s : Word) : crcFeed s [] = s := rfl

@[simp] theorem crcFeed_cons (s : Word) (b : Byte) (l : List Byte) : crcFeed s (b :: l) = crcFeed (crcStep8 s b) l := rfl

theorem crcFeed_append (s : Word) (l m : List Byte) : crcFeed s (l ++ m) = crcFeed (crcFeed s l) m :=
  List.foldl_append

/-- One bit step is linear over exclusive or. -/
theorem crcShift_xor (x y : Word) : crcShift (x ^^^ y) = crcShift x ^^^ crcShift y := by
  unfold crcShift
  rw [BitVec.getLsbD_xor, BitVec.ushiftRight_xor_distrib]
  cases x.getLsbD 0 <;> cases y.getLsbD 0 <;> simp
  · ac_rfl
  · ac_rfl
  · rw [show ∀ a b p : Word, a ^^^ p ^^^ (b ^^^ p) = a ^^^ b ^^^ (p ^^^ p) by intros; ac_rfl]; simp

/-- A word whose low bit is 0 is only shifted. -/
theorem crcShift_even (x : Word) (h : x.getLsbD 0 = false) : crcShift x = x >>> 1 := by
  unfold crcShift
  rw [h]
  rfl

/-- The byte step depends on the register and the byte through their exclusive or. -/
theorem crcStep8_eq (s : Word) (b : Byte) : crcStep8 s b = crcStep8 (s ^^^ b.setWidth 32) 0#8 := by
  simp [crcStep8]

end Sys2Proof.Machine
end

