-- ==== Sys2Proof/Laws/State.lean ====
section
/-! SUPPORT. One lemma per field per update of the block and of the state, so that no proof unfolds a record update. -/

namespace Sys2Proof.Machine

variable (b : Block) (s : State)

/-! ### `Block.setCtrl` -/

@[simp] theorem Block.setCtrl_crcEn (w : Word) : (b.setCtrl w).crcEn = bit0 w := rfl
@[simp] theorem Block.setCtrl_stickySt (w : Word) : (b.setCtrl w).stickySt = bit1 w := rfl
@[simp] theorem Block.setCtrl_len (w : Word) : (b.setCtrl w).len = b.len := rfl
@[simp] theorem Block.setCtrl_illegalCmd (w : Word) : (b.setCtrl w).illegalCmd = b.illegalCmd := rfl
@[simp] theorem Block.setCtrl_roWrite (w : Word) : (b.setCtrl w).roWrite = b.roWrite := rfl
@[simp] theorem Block.setCtrl_samples (w : Word) : (b.setCtrl w).samples = b.samples := rfl
@[simp] theorem Block.setCtrl_agPass (w : Word) : (b.setCtrl w).agPass = b.agPass := rfl
@[simp] theorem Block.setCtrl_magPass (w : Word) : (b.setCtrl w).magPass = b.magPass := rfl
@[simp] theorem Block.setCtrl_crcState (w : Word) : (b.setCtrl w).crcState = b.crcState := rfl
@[simp] theorem Block.setCtrl_frame (w : Word) : (b.setCtrl w).frame = b.frame := rfl

/-! ### `Block.setSelftest` -/

@[simp] theorem Block.setSelftest_crcEn (w : Word) : (b.setSelftest w).crcEn = b.crcEn := rfl
@[simp] theorem Block.setSelftest_stickySt (w : Word) : (b.setSelftest w).stickySt = b.stickySt := rfl
@[simp] theorem Block.setSelftest_len (w : Word) : (b.setSelftest w).len = b.len := rfl
@[simp] theorem Block.setSelftest_illegalCmd (w : Word) : (b.setSelftest w).illegalCmd = b.illegalCmd := rfl
@[simp] theorem Block.setSelftest_roWrite (w : Word) : (b.setSelftest w).roWrite = b.roWrite := rfl
@[simp] theorem Block.setSelftest_samples (w : Word) : (b.setSelftest w).samples = b.samples := rfl
@[simp] theorem Block.setSelftest_agPass (w : Word) : (b.setSelftest w).agPass = bit0 w := rfl
@[simp] theorem Block.setSelftest_magPass (w : Word) : (b.setSelftest w).magPass = bit1 w := rfl
@[simp] theorem Block.setSelftest_crcState (w : Word) : (b.setSelftest w).crcState = b.crcState := rfl
@[simp] theorem Block.setSelftest_frame (w : Word) : (b.setSelftest w).frame = b.frame := rfl

/-! ### `Block.setIllegalCmd` -/

@[simp] theorem Block.setIllegalCmd_crcEn : (b.setIllegalCmd).crcEn = b.crcEn := rfl
@[simp] theorem Block.setIllegalCmd_stickySt : (b.setIllegalCmd).stickySt = b.stickySt := rfl
@[simp] theorem Block.setIllegalCmd_len : (b.setIllegalCmd).len = b.len := rfl
@[simp] theorem Block.setIllegalCmd_illegalCmd : (b.setIllegalCmd).illegalCmd = true := rfl
@[simp] theorem Block.setIllegalCmd_roWrite : (b.setIllegalCmd).roWrite = b.roWrite := rfl
@[simp] theorem Block.setIllegalCmd_samples : (b.setIllegalCmd).samples = b.samples := rfl
@[simp] theorem Block.setIllegalCmd_agPass : (b.setIllegalCmd).agPass = b.agPass := rfl
@[simp] theorem Block.setIllegalCmd_magPass : (b.setIllegalCmd).magPass = b.magPass := rfl
@[simp] theorem Block.setIllegalCmd_crcState : (b.setIllegalCmd).crcState = b.crcState := rfl
@[simp] theorem Block.setIllegalCmd_frame : (b.setIllegalCmd).frame = b.frame := rfl

/-! ### `Block.setRoWrite` -/

@[simp] theorem Block.setRoWrite_crcEn : (b.setRoWrite).crcEn = b.crcEn := rfl
@[simp] theorem Block.setRoWrite_stickySt : (b.setRoWrite).stickySt = b.stickySt := rfl
@[simp] theorem Block.setRoWrite_len : (b.setRoWrite).len = b.len := rfl
@[simp] theorem Block.setRoWrite_illegalCmd : (b.setRoWrite).illegalCmd = b.illegalCmd := rfl
@[simp] theorem Block.setRoWrite_roWrite : (b.setRoWrite).roWrite = true := rfl
@[simp] theorem Block.setRoWrite_samples : (b.setRoWrite).samples = b.samples := rfl
@[simp] theorem Block.setRoWrite_agPass : (b.setRoWrite).agPass = b.agPass := rfl
@[simp] theorem Block.setRoWrite_magPass : (b.setRoWrite).magPass = b.magPass := rfl
@[simp] theorem Block.setRoWrite_crcState : (b.setRoWrite).crcState = b.crcState := rfl
@[simp] theorem Block.setRoWrite_frame : (b.setRoWrite).frame = b.frame := rfl

/-! ### `Block.clearErrors` -/

@[simp] theorem Block.clearErrors_crcEn (w : Word) : (b.clearErrors w).crcEn = b.crcEn := rfl
@[simp] theorem Block.clearErrors_stickySt (w : Word) : (b.clearErrors w).stickySt = b.stickySt := rfl
@[simp] theorem Block.clearErrors_len (w : Word) : (b.clearErrors w).len = b.len := rfl
@[simp] theorem Block.clearErrors_illegalCmd (w : Word) : (b.clearErrors w).illegalCmd = if bit0 w then false else b.illegalCmd := rfl
@[simp] theorem Block.clearErrors_roWrite (w : Word) : (b.clearErrors w).roWrite = if bit1 w then false else b.roWrite := rfl
@[simp] theorem Block.clearErrors_samples (w : Word) : (b.clearErrors w).samples = b.samples := rfl
@[simp] theorem Block.clearErrors_agPass (w : Word) : (b.clearErrors w).agPass = b.agPass := rfl
@[simp] theorem Block.clearErrors_magPass (w : Word) : (b.clearErrors w).magPass = b.magPass := rfl
@[simp] theorem Block.clearErrors_crcState (w : Word) : (b.clearErrors w).crcState = b.crcState := rfl
@[simp] theorem Block.clearErrors_frame (w : Word) : (b.clearErrors w).frame = b.frame := rfl

/-! ### `Block.setSample` -/

@[simp] theorem Block.setSample_crcEn (i : Fin 6) (w : Word) : (b.setSample i w).crcEn = b.crcEn := rfl
@[simp] theorem Block.setSample_stickySt (i : Fin 6) (w : Word) : (b.setSample i w).stickySt = b.stickySt := rfl
@[simp] theorem Block.setSample_len (i : Fin 6) (w : Word) : (b.setSample i w).len = b.len := rfl
@[simp] theorem Block.setSample_illegalCmd (i : Fin 6) (w : Word) : (b.setSample i w).illegalCmd = b.illegalCmd := rfl
@[simp] theorem Block.setSample_roWrite (i : Fin 6) (w : Word) : (b.setSample i w).roWrite = b.roWrite := rfl
@[simp] theorem Block.setSample_samples (i : Fin 6) (w : Word) : (b.setSample i w).samples = b.samples.set i (sampleField w) := rfl
@[simp] theorem Block.setSample_agPass (i : Fin 6) (w : Word) : (b.setSample i w).agPass = b.agPass := rfl
@[simp] theorem Block.setSample_magPass (i : Fin 6) (w : Word) : (b.setSample i w).magPass = b.magPass := rfl
@[simp] theorem Block.setSample_crcState (i : Fin 6) (w : Word) : (b.setSample i w).crcState = b.crcState := rfl
@[simp] theorem Block.setSample_frame (i : Fin 6) (w : Word) : (b.setSample i w).frame = b.frame := rfl

/-! ### `Block.setCrcState` -/

@[simp] theorem Block.setCrcState_crcEn (w : Word) : (b.setCrcState w).crcEn = b.crcEn := rfl
@[simp] theorem Block.setCrcState_stickySt (w : Word) : (b.setCrcState w).stickySt = b.stickySt := rfl
@[simp] theorem Block.setCrcState_len (w : Word) : (b.setCrcState w).len = b.len := rfl
@[simp] theorem Block.setCrcState_illegalCmd (w : Word) : (b.setCrcState w).illegalCmd = b.illegalCmd := rfl
@[simp] theorem Block.setCrcState_roWrite (w : Word) : (b.setCrcState w).roWrite = b.roWrite := rfl
@[simp] theorem Block.setCrcState_samples (w : Word) : (b.setCrcState w).samples = b.samples := rfl
@[simp] theorem Block.setCrcState_agPass (w : Word) : (b.setCrcState w).agPass = b.agPass := rfl
@[simp] theorem Block.setCrcState_magPass (w : Word) : (b.setCrcState w).magPass = b.magPass := rfl
@[simp] theorem Block.setCrcState_crcState (w : Word) : (b.setCrcState w).crcState = w := rfl
@[simp] theorem Block.setCrcState_frame (w : Word) : (b.setCrcState w).frame = b.frame := rfl

/-! ### `Block.feedCrc` -/

@[simp] theorem Block.feedCrc_crcEn (l : List Byte) : (b.feedCrc l).crcEn = b.crcEn := rfl
@[simp] theorem Block.feedCrc_stickySt (l : List Byte) : (b.feedCrc l).stickySt = b.stickySt := rfl
@[simp] theorem Block.feedCrc_len (l : List Byte) : (b.feedCrc l).len = b.len := rfl
@[simp] theorem Block.feedCrc_illegalCmd (l : List Byte) : (b.feedCrc l).illegalCmd = b.illegalCmd := rfl
@[simp] theorem Block.feedCrc_roWrite (l : List Byte) : (b.feedCrc l).roWrite = b.roWrite := rfl
@[simp] theorem Block.feedCrc_samples (l : List Byte) : (b.feedCrc l).samples = b.samples := rfl
@[simp] theorem Block.feedCrc_agPass (l : List Byte) : (b.feedCrc l).agPass = b.agPass := rfl
@[simp] theorem Block.feedCrc_magPass (l : List Byte) : (b.feedCrc l).magPass = b.magPass := rfl
@[simp] theorem Block.feedCrc_crcState (l : List Byte) : (b.feedCrc l).crcState = crcFeed b.crcState l := rfl
@[simp] theorem Block.feedCrc_frame (l : List Byte) : (b.feedCrc l).frame = b.frame := rfl

/-! ### `Block.build` -/

@[simp] theorem Block.build_crcEn : (b.build).crcEn = b.crcEn := rfl
@[simp] theorem Block.build_stickySt : (b.build).stickySt = b.stickySt := rfl
@[simp] theorem Block.build_len : (b.build).len = builtLen b.crcEn := rfl
@[simp] theorem Block.build_illegalCmd : (b.build).illegalCmd = b.illegalCmd := rfl
@[simp] theorem Block.build_roWrite : (b.build).roWrite = b.roWrite := rfl
@[simp] theorem Block.build_samples : (b.build).samples = b.samples := rfl
@[simp] theorem Block.build_agPass : (b.build).agPass = b.agPass := rfl
@[simp] theorem Block.build_magPass : (b.build).magPass = b.magPass := rfl
@[simp] theorem Block.build_crcState : (b.build).crcState = b.crcState := rfl
@[simp] theorem Block.build_frame : (b.build).frame = appendTrailer b.crcEn (buildBody b) := rfl

/-! ### `Block.probe` -/

@[simp] theorem Block.probe_crcEn : (b.probe).crcEn = b.crcEn := rfl
@[simp] theorem Block.probe_stickySt : (b.probe).stickySt = b.stickySt := rfl
@[simp] theorem Block.probe_len : (b.probe).len = Config.probeBytes := rfl
@[simp] theorem Block.probe_illegalCmd : (b.probe).illegalCmd = b.illegalCmd := rfl
@[simp] theorem Block.probe_roWrite : (b.probe).roWrite = b.roWrite := rfl
@[simp] theorem Block.probe_samples : (b.probe).samples = b.samples := rfl
@[simp] theorem Block.probe_agPass : (b.probe).agPass = b.agPass := rfl
@[simp] theorem Block.probe_magPass : (b.probe).magPass = b.magPass := rfl
@[simp] theorem Block.probe_crcState : (b.probe).crcState = b.crcState := rfl
@[simp] theorem Block.probe_frame : (b.probe).frame = FrameBuffer.put b.frame 0 Config.probeByte := rfl

/-! ### `Block.clearFrame` -/

@[simp] theorem Block.clearFrame_crcEn : (b.clearFrame).crcEn = b.crcEn := rfl
@[simp] theorem Block.clearFrame_stickySt : (b.clearFrame).stickySt = b.stickySt := rfl
@[simp] theorem Block.clearFrame_len : (b.clearFrame).len = 0x00#8 := rfl
@[simp] theorem Block.clearFrame_illegalCmd : (b.clearFrame).illegalCmd = b.illegalCmd := rfl
@[simp] theorem Block.clearFrame_roWrite : (b.clearFrame).roWrite = b.roWrite := rfl
@[simp] theorem Block.clearFrame_samples : (b.clearFrame).samples = b.samples := rfl
@[simp] theorem Block.clearFrame_agPass : (b.clearFrame).agPass = b.agPass := rfl
@[simp] theorem Block.clearFrame_magPass : (b.clearFrame).magPass = b.magPass := rfl
@[simp] theorem Block.clearFrame_crcState : (b.clearFrame).crcState = b.crcState := rfl
@[simp] theorem Block.clearFrame_frame : (b.clearFrame).frame = Vector.replicate Config.bufferBytes 0x00#8 := rfl

/-! ### `State.answerData` -/

@[simp] theorem State.answerData_block (w : Word) : (s.answerData w).block = s.block := rfl
@[simp] theorem State.answerData_pending (w : Word) : (s.answerData w).pending = s.pending := rfl
@[simp] theorem State.answerData_response (w : Word) : (s.answerData w).response = some (.data w) := rfl

/-! ### `State.answerOkay` -/

@[simp] theorem State.answerOkay_block (c : Block) : (s.answerOkay c).block = c := rfl
@[simp] theorem State.answerOkay_pending (c : Block) : (s.answerOkay c).pending = s.pending := rfl
@[simp] theorem State.answerOkay_response (c : Block) : (s.answerOkay c).response = some .okay := rfl

/-! ### `State.applyReset` -/

@[simp] theorem State.applyReset_block : (s.applyReset).block = Block.reset := rfl
@[simp] theorem State.applyReset_pending : (s.applyReset).pending = s.pending := rfl
@[simp] theorem State.applyReset_response : (s.applyReset).response = none := rfl

/-! ### `State.takeException`: everything it can do, by the kind of exception -/

@[simp] theorem State.takeException_busError (off : Offset) :
    s.takeException (.busError off) = { s with block := s.block, response := some (.error (.busError off)) } := rfl
@[simp] theorem State.takeException_illegalCommand :
    s.takeException .illegalCommand = { s with block := s.block.setIllegalCmd, response := some .okay } := rfl
@[simp] theorem State.takeException_readOnlyWrite :
    s.takeException .readOnlyWrite = { s with block := s.block.setRoWrite, response := some .okay } := rfl

@[simp] theorem State.takeException_pending (e : Exception) : (s.takeException e).pending = s.pending := by
  cases e <;> rfl

end Sys2Proof.Machine
end

