-- ==== Sys2Proof/Laws/Frame.lean ====
section
/-! SUPPORT. Reading a frame byte after each operation that writes the frame buffer: what every byte of the buffer is
after `put`, after each part of BUILD, and after FRAME_CLR. -/

namespace Sys2Proof.Machine

/-- A byte reads as written, and every other byte as before; a write beyond the storage does nothing. -/
theorem FrameBuffer.at_put (f : FrameBuffer) (i j : Nat) (v : Byte) :
    FrameBuffer.at (FrameBuffer.put f i v) j = if i = j ∧ i < Config.bufferBytes then v else FrameBuffer.at f j := by
  unfold FrameBuffer.put FrameBuffer.at
  by_cases hj : j < Config.bufferBytes
  · simp only [hj, dif_pos, Vector.getElem_setIfInBounds]
    by_cases hij : i = j
    · subst hij; simp [hj]
    · simp [hij]
  · have : ¬ (i = j ∧ i < Config.bufferBytes) := fun h => hj (h.1 ▸ h.2)
    simp [hj, this]

theorem FrameBuffer.at_put_same (f : FrameBuffer) (i : Nat) (v : Byte) (h : i < Config.bufferBytes) :
    FrameBuffer.at (FrameBuffer.put f i v) i = v := by simp [FrameBuffer.at_put, h]

theorem FrameBuffer.at_put_other (f : FrameBuffer) (i j : Nat) (v : Byte) (h : i ≠ j) :
    FrameBuffer.at (FrameBuffer.put f i v) j = FrameBuffer.at f j := by simp [FrameBuffer.at_put, h]

/-- Two buffers that read the same at every stored byte are equal. -/
theorem FrameBuffer.ext_at {f g : FrameBuffer} (h : ∀ i < Config.bufferBytes, FrameBuffer.at f i = FrameBuffer.at g i) :
    f = g := by
  apply Vector.ext
  intro i hi
  simpa [FrameBuffer.at, hi] using h i hi

@[simp] theorem FrameBuffer.at_zero (j : Nat) :
    FrameBuffer.at (Vector.replicate Config.bufferBytes 0x00#8) j = 0x00#8 := by
  unfold FrameBuffer.at; split <;> simp

theorem FrameBuffer.first_congr {f g : FrameBuffer} {n : Nat}
    (h : ∀ i < n, FrameBuffer.at f i = FrameBuffer.at g i) : FrameBuffer.first f n = FrameBuffer.first g n := by
  unfold FrameBuffer.first
  exact List.map_congr_left fun i hi => h i (List.mem_range.1 hi)

/-- The packer puts sample `i` in bytes `1+2i` and `2+2i`, low byte first (rule R52), and leaves the others. -/
theorem packSamples_at (samples : Vector Sample 6) (f : FrameBuffer) (j : Nat) :
    FrameBuffer.at (packSamples samples f) j =
      if j = 1 then lowByte samples[0] else if j = 2 then highByte samples[0] else
      if j = 3 then lowByte samples[1] else if j = 4 then highByte samples[1] else
      if j = 5 then lowByte samples[2] else if j = 6 then highByte samples[2] else
      if j = 7 then lowByte samples[3] else if j = 8 then highByte samples[3] else
      if j = 9 then lowByte samples[4] else if j = 10 then highByte samples[4] else
      if j = 11 then lowByte samples[5] else if j = 12 then highByte samples[5] else FrameBuffer.at f j := by
  simp only [packSamples, List.foldl, packSample, FrameBuffer.at_put]
  by_cases hj : j < 13
  · interval_cases j <;> rfl
  · simp only [show j ≠ 1 by omega, show j ≠ 2 by omega, show j ≠ 3 by omega, show j ≠ 4 by omega,
      show j ≠ 5 by omega, show j ≠ 6 by omega, show j ≠ 7 by omega, show j ≠ 8 by omega, show j ≠ 9 by omega,
      show j ≠ 10 by omega, show j ≠ 11 by omega, show j ≠ 12 by omega, if_false]
    repeat rw [if_neg (by simp; omega)]

theorem clearReserved_at (f : FrameBuffer) (j : Nat) :
    FrameBuffer.at (clearReserved f) j = if 13 ≤ j ∧ j ≤ 20 then 0x00#8 else FrameBuffer.at f j := by
  simp only [clearReserved, List.foldl, FrameBuffer.at_put]
  by_cases hj : 13 ≤ j ∧ j ≤ 20
  · obtain ⟨h1, h2⟩ := hj
    interval_cases j <;> rfl
  · rw [if_neg hj]
    repeat rw [if_neg (by omega)]

theorem putSelftest_at (b : Block) (f : FrameBuffer) (j : Nat) :
    FrameBuffer.at (putSelftest b f) j =
      if j = 21 then selftestByte b.stickySt b.agPass (FrameBuffer.at f 21)
      else if j = 22 then selftestByte b.stickySt b.magPass (FrameBuffer.at f 22) else FrameBuffer.at f j := by
  simp only [putSelftest, FrameBuffer.at_put]
  grind

theorem putTrailer_at (f : FrameBuffer) (b23 b24 b25 b26 : Byte) (j : Nat) :
    FrameBuffer.at (putTrailer f b23 b24 b25 b26) j =
      if j = 23 then b23 else if j = 24 then b24 else if j = 25 then b25 else if j = 26 then b26
      else FrameBuffer.at f j := by
  simp only [putTrailer, FrameBuffer.at_put]
  grind

/-- The trailer step leaves bytes 0 to 22 alone (rule R54). -/
theorem appendTrailer_at_body (c : Bool) (f : FrameBuffer) (j : Nat) (h : j < 23) :
    FrameBuffer.at (appendTrailer c f) j = FrameBuffer.at f j := by
  unfold appendTrailer
  split <;> simp only [putTrailer_at] <;> grind

theorem appendTrailer_first (c : Bool) (f : FrameBuffer) :
    FrameBuffer.first (appendTrailer c f) 23 = FrameBuffer.first f 23 :=
  FrameBuffer.first_congr fun i hi => appendTrailer_at_body c f i hi

/-- Every byte of the body of BUILD below byte 23 (rules R51 to R53). -/
theorem buildBody_at (b : Block) (j : Nat) (h : j < 23) :
    FrameBuffer.at (buildBody b) j =
      if j = 0 then Config.marker else
      if j = 1 then lowByte b.samples[0] else if j = 2 then highByte b.samples[0] else
      if j = 3 then lowByte b.samples[1] else if j = 4 then highByte b.samples[1] else
      if j = 5 then lowByte b.samples[2] else if j = 6 then highByte b.samples[2] else
      if j = 7 then lowByte b.samples[3] else if j = 8 then highByte b.samples[3] else
      if j = 9 then lowByte b.samples[4] else if j = 10 then highByte b.samples[4] else
      if j = 11 then lowByte b.samples[5] else if j = 12 then highByte b.samples[5] else
      if j ≤ 20 then 0x00#8 else
      if j = 21 then selftestByte b.stickySt b.agPass (FrameBuffer.at b.frame 21)
      else selftestByte b.stickySt b.magPass (FrameBuffer.at b.frame 22) := by
  simp only [buildBody, putSelftest_at, clearReserved_at, packSamples_at, FrameBuffer.at_put]
  interval_cases j <;> rfl

/-- Bytes 23 to 26 after BUILD with the trailer on: `le32` of the CRC-32 of bytes 0 to 22 (rule R54). -/
theorem appendTrailer_at_on (f : FrameBuffer) (j : Nat) (h : j < 4) :
    FrameBuffer.at (appendTrailer true f) (23 + j) = byteLane (crc32 (FrameBuffer.first f 23)) j := by
  simp only [appendTrailer, if_true, putTrailer_at, Config.crcSpan]
  interval_cases j <;> rfl

/-- Bytes 23 to 26 after BUILD with the trailer off (rule R54). -/
theorem appendTrailer_at_off (f : FrameBuffer) (j : Nat) (h : j < 4) :
    FrameBuffer.at (appendTrailer false f) (23 + j) = 0x00#8 := by
  simp only [appendTrailer, Bool.false_eq_true, if_false, putTrailer_at]
  interval_cases j <;> rfl

end Sys2Proof.Machine
end

