-- ==== Sys2Proof/Laws/PerInstr.lean ====
section
/-! SUPPORT. Per-instruction lemmas of the family `EncodesWellFormed` (LAWS.json): what an instruction encodes to
passes every check of WellFormed.lean, so its encoding is a mapped offset or a legal command word. -/

/-- The encoding of an instruction is well formed. -/
def Sys2Proof.Laws.EncodesWellFormed.Statement (i : Sys2Proof.Instr) : Prop :=
  (Sys2Proof.encode i).wellFormed = true

theorem Sys2Proof.Laws.EncodesWellFormed.rdCtrl : Sys2Proof.Laws.EncodesWellFormed.Statement .rdCtrl := rfl
theorem Sys2Proof.Laws.EncodesWellFormed.wrCtrl (w : Sys2Proof.Word) : Sys2Proof.Laws.EncodesWellFormed.Statement (.wrCtrl w) := rfl
theorem Sys2Proof.Laws.EncodesWellFormed.rdFrameLen : Sys2Proof.Laws.EncodesWellFormed.Statement .rdFrameLen := rfl
theorem Sys2Proof.Laws.EncodesWellFormed.wrFrameLen (w : Sys2Proof.Word) : Sys2Proof.Laws.EncodesWellFormed.Statement (.wrFrameLen w) := rfl
theorem Sys2Proof.Laws.EncodesWellFormed.rdCmd : Sys2Proof.Laws.EncodesWellFormed.Statement .rdCmd := rfl
theorem Sys2Proof.Laws.EncodesWellFormed.wrCmd (w : Sys2Proof.Word) : Sys2Proof.Laws.EncodesWellFormed.Statement (.wrCmd w) := rfl
theorem Sys2Proof.Laws.EncodesWellFormed.rdErr : Sys2Proof.Laws.EncodesWellFormed.Statement .rdErr := rfl
theorem Sys2Proof.Laws.EncodesWellFormed.wrErr (w : Sys2Proof.Word) : Sys2Proof.Laws.EncodesWellFormed.Statement (.wrErr w) := rfl
theorem Sys2Proof.Laws.EncodesWellFormed.rdAccX : Sys2Proof.Laws.EncodesWellFormed.Statement .rdAccX := rfl
theorem Sys2Proof.Laws.EncodesWellFormed.wrAccX (w : Sys2Proof.Word) : Sys2Proof.Laws.EncodesWellFormed.Statement (.wrAccX w) := rfl
theorem Sys2Proof.Laws.EncodesWellFormed.rdAccY : Sys2Proof.Laws.EncodesWellFormed.Statement .rdAccY := rfl
theorem Sys2Proof.Laws.EncodesWellFormed.wrAccY (w : Sys2Proof.Word) : Sys2Proof.Laws.EncodesWellFormed.Statement (.wrAccY w) := rfl
theorem Sys2Proof.Laws.EncodesWellFormed.rdAccZ : Sys2Proof.Laws.EncodesWellFormed.Statement .rdAccZ := rfl
theorem Sys2Proof.Laws.EncodesWellFormed.wrAccZ (w : Sys2Proof.Word) : Sys2Proof.Laws.EncodesWellFormed.Statement (.wrAccZ w) := rfl
theorem Sys2Proof.Laws.EncodesWellFormed.rdGyrX : Sys2Proof.Laws.EncodesWellFormed.Statement .rdGyrX := rfl
theorem Sys2Proof.Laws.EncodesWellFormed.wrGyrX (w : Sys2Proof.Word) : Sys2Proof.Laws.EncodesWellFormed.Statement (.wrGyrX w) := rfl
theorem Sys2Proof.Laws.EncodesWellFormed.rdGyrY : Sys2Proof.Laws.EncodesWellFormed.Statement .rdGyrY := rfl
theorem Sys2Proof.Laws.EncodesWellFormed.wrGyrY (w : Sys2Proof.Word) : Sys2Proof.Laws.EncodesWellFormed.Statement (.wrGyrY w) := rfl
theorem Sys2Proof.Laws.EncodesWellFormed.rdGyrZ : Sys2Proof.Laws.EncodesWellFormed.Statement .rdGyrZ := rfl
theorem Sys2Proof.Laws.EncodesWellFormed.wrGyrZ (w : Sys2Proof.Word) : Sys2Proof.Laws.EncodesWellFormed.Statement (.wrGyrZ w) := rfl
theorem Sys2Proof.Laws.EncodesWellFormed.rdSelftest : Sys2Proof.Laws.EncodesWellFormed.Statement .rdSelftest := rfl
theorem Sys2Proof.Laws.EncodesWellFormed.wrSelftest (w : Sys2Proof.Word) : Sys2Proof.Laws.EncodesWellFormed.Statement (.wrSelftest w) := rfl
theorem Sys2Proof.Laws.EncodesWellFormed.rdCrcState : Sys2Proof.Laws.EncodesWellFormed.Statement .rdCrcState := rfl
theorem Sys2Proof.Laws.EncodesWellFormed.wrCrcState (w : Sys2Proof.Word) : Sys2Proof.Laws.EncodesWellFormed.Statement (.wrCrcState w) := rfl
theorem Sys2Proof.Laws.EncodesWellFormed.rdCrcResult : Sys2Proof.Laws.EncodesWellFormed.Statement .rdCrcResult := rfl
theorem Sys2Proof.Laws.EncodesWellFormed.wrCrcResult (w : Sys2Proof.Word) : Sys2Proof.Laws.EncodesWellFormed.Statement (.wrCrcResult w) := rfl
theorem Sys2Proof.Laws.EncodesWellFormed.rdCrcData8 : Sys2Proof.Laws.EncodesWellFormed.Statement .rdCrcData8 := rfl
theorem Sys2Proof.Laws.EncodesWellFormed.wrCrcData8 (w : Sys2Proof.Word) : Sys2Proof.Laws.EncodesWellFormed.Statement (.wrCrcData8 w) := rfl
theorem Sys2Proof.Laws.EncodesWellFormed.rdCrcData32 : Sys2Proof.Laws.EncodesWellFormed.Statement .rdCrcData32 := rfl
theorem Sys2Proof.Laws.EncodesWellFormed.wrCrcData32 (w : Sys2Proof.Word) : Sys2Proof.Laws.EncodesWellFormed.Statement (.wrCrcData32 w) := rfl
theorem Sys2Proof.Laws.EncodesWellFormed.rdFrame0 : Sys2Proof.Laws.EncodesWellFormed.Statement .rdFrame0 := rfl
theorem Sys2Proof.Laws.EncodesWellFormed.wrFrame0 (w : Sys2Proof.Word) : Sys2Proof.Laws.EncodesWellFormed.Statement (.wrFrame0 w) := rfl
theorem Sys2Proof.Laws.EncodesWellFormed.rdFrame1 : Sys2Proof.Laws.EncodesWellFormed.Statement .rdFrame1 := rfl
theorem Sys2Proof.Laws.EncodesWellFormed.wrFrame1 (w : Sys2Proof.Word) : Sys2Proof.Laws.EncodesWellFormed.Statement (.wrFrame1 w) := rfl
theorem Sys2Proof.Laws.EncodesWellFormed.rdFrame2 : Sys2Proof.Laws.EncodesWellFormed.Statement .rdFrame2 := rfl
theorem Sys2Proof.Laws.EncodesWellFormed.wrFrame2 (w : Sys2Proof.Word) : Sys2Proof.Laws.EncodesWellFormed.Statement (.wrFrame2 w) := rfl
theorem Sys2Proof.Laws.EncodesWellFormed.rdFrame3 : Sys2Proof.Laws.EncodesWellFormed.Statement .rdFrame3 := rfl
theorem Sys2Proof.Laws.EncodesWellFormed.wrFrame3 (w : Sys2Proof.Word) : Sys2Proof.Laws.EncodesWellFormed.Statement (.wrFrame3 w) := rfl
theorem Sys2Proof.Laws.EncodesWellFormed.rdFrame4 : Sys2Proof.Laws.EncodesWellFormed.Statement .rdFrame4 := rfl
theorem Sys2Proof.Laws.EncodesWellFormed.wrFrame4 (w : Sys2Proof.Word) : Sys2Proof.Laws.EncodesWellFormed.Statement (.wrFrame4 w) := rfl
theorem Sys2Proof.Laws.EncodesWellFormed.rdFrame5 : Sys2Proof.Laws.EncodesWellFormed.Statement .rdFrame5 := rfl
theorem Sys2Proof.Laws.EncodesWellFormed.wrFrame5 (w : Sys2Proof.Word) : Sys2Proof.Laws.EncodesWellFormed.Statement (.wrFrame5 w) := rfl
theorem Sys2Proof.Laws.EncodesWellFormed.rdFrame6 : Sys2Proof.Laws.EncodesWellFormed.Statement .rdFrame6 := rfl
theorem Sys2Proof.Laws.EncodesWellFormed.wrFrame6 (w : Sys2Proof.Word) : Sys2Proof.Laws.EncodesWellFormed.Statement (.wrFrame6 w) := rfl
theorem Sys2Proof.Laws.EncodesWellFormed.nop : Sys2Proof.Laws.EncodesWellFormed.Statement .nop := rfl
theorem Sys2Proof.Laws.EncodesWellFormed.build : Sys2Proof.Laws.EncodesWellFormed.Statement .build := rfl
theorem Sys2Proof.Laws.EncodesWellFormed.probe : Sys2Proof.Laws.EncodesWellFormed.Statement .probe := rfl
theorem Sys2Proof.Laws.EncodesWellFormed.frameClr : Sys2Proof.Laws.EncodesWellFormed.Statement .frameClr := rfl
theorem Sys2Proof.Laws.EncodesWellFormed.crcInit : Sys2Proof.Laws.EncodesWellFormed.Statement .crcInit := rfl
theorem Sys2Proof.Laws.EncodesWellFormed.crcByte (b : Sys2Proof.Byte) : Sys2Proof.Laws.EncodesWellFormed.Statement (.crcByte b) := by
  have all : ∀ c : Sys2Proof.Byte, (Sys2Proof.encode (.crcByte c)).wellFormed = true := by decide +kernel
  exact all b
end

