-- ==== Sys2Proof/Laws/Step.lean ====
section
/-! SUPPORT. What a step can do, said once: which command a word selects, what every instruction can do to the block,
and how a step comes to its next state. Later proofs cite these and do not unfold `exec` or `step`. -/

namespace Sys2Proof.Machine

/-- The commands a word can select, with the words that select them (rule R45). -/
theorem decodeCommand_cases (w : Word) :
    (w = 0x00000000#32 ∧ decodeCommand w = some .nop) ∨ (w = 0x00000001#32 ∧ decodeCommand w = some .build) ∨
    (w = 0x00000002#32 ∧ decodeCommand w = some .probe) ∨ (w = 0x00000003#32 ∧ decodeCommand w = some .frameClr) ∨
    (w = 0x00000004#32 ∧ decodeCommand w = some .crcInit) ∨
    (w &&& 0xFFFF00FF#32 = 0x00000005#32 ∧ decodeCommand w = some (.crcByte (imm8Field w))) ∨
    decodeCommand w = none := by
  by_cases h0 : w = 0x00000000#32
  · subst h0; exact .inl ⟨rfl, rfl⟩
  by_cases h1 : w = 0x00000001#32
  · subst h1; exact .inr (.inl ⟨rfl, rfl⟩)
  by_cases h2 : w = 0x00000002#32
  · subst h2; exact .inr (.inr (.inl ⟨rfl, rfl⟩))
  by_cases h3 : w = 0x00000003#32
  · subst h3; exact .inr (.inr (.inr (.inl ⟨rfl, rfl⟩)))
  by_cases h4 : w = 0x00000004#32
  · subst h4; exact .inr (.inr (.inr (.inr (.inl ⟨rfl, rfl⟩))))
  have ones : w &&& 0xFFFFFFFF#32 = w := BitVec.and_allOnes
  have n0 : (w == 0x00000000#32) = false := by simpa using h0
  have n1 : (w == 0x00000001#32) = false := by simpa using h1
  have n2 : (w == 0x00000002#32) = false := by simpa using h2
  have n3 : (w == 0x00000003#32) = false := by simpa using h3
  have n4 : (w == 0x00000004#32) = false := by simpa using h4
  by_cases h5 : w &&& 0xFFFF00FF#32 = 0x00000005#32
  · have n5 : (w &&& 0xFFFF00FF#32 == 0x00000005#32) = true := by simpa using h5
    refine .inr (.inr (.inr (.inr (.inr (.inl ⟨h5, ?_⟩)))))
    simp only [decodeCommand, commandTable, List.find?, ones, n0, n1, n2, n3, n4, n5, Option.map]
  · have n5 : (w &&& 0xFFFF00FF#32 == 0x00000005#32) = false := by simpa using h5
    refine .inr (.inr (.inr (.inr (.inr (.inr ?_)))))
    simp only [decodeCommand, commandTable, List.find?, ones, n0, n1, n2, n3, n4, n5, Option.map]

/-- Everything an instruction can do to the block: nothing, or the one update that is its own (a command acts the same
whether it is named or written to CMD). -/
inductive Effect (b : Block) : Instr → Block → Prop where
  | none (i : Instr) : Effect b i b
  | ctrl (w : Word) : Effect b (.wrCtrl w) (b.setCtrl w)
  | clearErrors (w : Word) : Effect b (.wrErr w) (b.clearErrors w)
  | accX (w : Word) : Effect b (.wrAccX w) (b.setSample 0 w)
  | accY (w : Word) : Effect b (.wrAccY w) (b.setSample 1 w)
  | accZ (w : Word) : Effect b (.wrAccZ w) (b.setSample 2 w)
  | gyrX (w : Word) : Effect b (.wrGyrX w) (b.setSample 3 w)
  | gyrY (w : Word) : Effect b (.wrGyrY w) (b.setSample 4 w)
  | gyrZ (w : Word) : Effect b (.wrGyrZ w) (b.setSample 5 w)
  | selftest (w : Word) : Effect b (.wrSelftest w) (b.setSelftest w)
  | crcState (w : Word) : Effect b (.wrCrcState w) (b.setCrcState w)
  | crcData8 (w : Word) : Effect b (.wrCrcData8 w) (b.feedCrc [byteLane w 0])
  | crcData32 (w : Word) : Effect b (.wrCrcData32 w) (b.feedCrc (le32 w))
  | readOnly (w : Word) (i : Instr)
      (h : i ∈ [Instr.wrFrameLen w, .wrCrcResult w, .wrFrame0 w, .wrFrame1 w, .wrFrame2 w, .wrFrame3 w, .wrFrame4 w,
        .wrFrame5 w, .wrFrame6 w]) : Effect b i b.setRoWrite
  | illegal (w : Word) (h : decodeCommand w = none) : Effect b (.wrCmd w) b.setIllegalCmd
  | build (i : Instr) (h : i = .build ∨ i = .wrCmd 0x00000001#32) : Effect b i b.build
  | probe (i : Instr) (h : i = .probe ∨ i = .wrCmd 0x00000002#32) : Effect b i b.probe
  | frameClr (i : Instr) (h : i = .frameClr ∨ i = .wrCmd 0x00000003#32) : Effect b i b.clearFrame
  | crcInit (i : Instr) (h : i = .crcInit ∨ i = .wrCmd 0x00000004#32) : Effect b i (b.setCrcState Config.crcInit)
  | crcByte (i : Instr) (c : Byte)
      (h : i = .crcByte c ∨ ∃ w, i = .wrCmd w ∧ w &&& 0xFFFF00FF#32 = 0x00000005#32 ∧ c = imm8Field w) :
      Effect b i (b.feedCrc [c])

/-- A write to CMD has the effect of the command it selects (rule R77). -/
theorem execWrCmd_effect {w : Word} {s t : State} (h : execWrCmd w s = .next t) :
    t.pending = s.pending ∧ Effect s.block (.wrCmd w) t.block := by
  obtain ⟨rfl, hw⟩ | ⟨rfl, hw⟩ | ⟨rfl, hw⟩ | ⟨rfl, hw⟩ | ⟨rfl, hw⟩ | ⟨h5, hw⟩ | hw := decodeCommand_cases w <;>
    simp only [execWrCmd, hw] at h <;> cases h
  · exact ⟨rfl, .none _⟩
  · exact ⟨rfl, .build _ (.inr rfl)⟩
  · exact ⟨rfl, .probe _ (.inr rfl)⟩
  · exact ⟨rfl, .frameClr _ (.inr rfl)⟩
  · exact ⟨rfl, .crcInit _ (.inr rfl)⟩
  · exact ⟨rfl, .crcByte _ _ (.inr ⟨w, rfl, h5, rfl⟩)⟩
  · exact ⟨rfl, .illegal w hw⟩

/-- The one lemma about what an instruction does: it leaves the queue alone and has its effect on the block. -/
theorem exec_effect {i : Instr} {s t : State} (h : exec i s = .next t) :
    t.pending = s.pending ∧ Effect s.block i t.block := by
  cases i with
  | wrCmd w => exact execWrCmd_effect h
  | wrCtrl w => cases h; exact ⟨rfl, .ctrl w⟩
  | wrErr w => cases h; exact ⟨rfl, .clearErrors w⟩
  | wrAccX w => cases h; exact ⟨rfl, .accX w⟩
  | wrAccY w => cases h; exact ⟨rfl, .accY w⟩
  | wrAccZ w => cases h; exact ⟨rfl, .accZ w⟩
  | wrGyrX w => cases h; exact ⟨rfl, .gyrX w⟩
  | wrGyrY w => cases h; exact ⟨rfl, .gyrY w⟩
  | wrGyrZ w => cases h; exact ⟨rfl, .gyrZ w⟩
  | wrSelftest w => cases h; exact ⟨rfl, .selftest w⟩
  | wrCrcState w => cases h; exact ⟨rfl, .crcState w⟩
  | wrCrcData8 w => cases h; exact ⟨rfl, .crcData8 w⟩
  | wrCrcData32 w => cases h; exact ⟨rfl, .crcData32 w⟩
  | build => cases h; exact ⟨rfl, .build _ (.inl rfl)⟩
  | probe => cases h; exact ⟨rfl, .probe _ (.inl rfl)⟩
  | frameClr => cases h; exact ⟨rfl, .frameClr _ (.inl rfl)⟩
  | crcInit => cases h; exact ⟨rfl, .crcInit _ (.inl rfl)⟩
  | crcByte c => cases h; exact ⟨rfl, .crcByte _ c (.inl rfl)⟩
  | wrFrameLen w | wrCrcResult w | wrFrame0 w | wrFrame1 w | wrFrame2 w | wrFrame3 w | wrFrame4 w | wrFrame5 w
  | wrFrame6 w => cases h; exact ⟨rfl, .readOnly w _ (by simp)⟩
  | rdCtrl | rdFrameLen | rdCmd | rdErr | rdAccX | rdAccY | rdAccZ | rdGyrX | rdGyrY | rdGyrZ | rdSelftest
  | rdCrcState | rdCrcResult | rdCrcData8 | rdCrcData32 | rdFrame0 | rdFrame1 | rdFrame2 | rdFrame3 | rdFrame4
  | rdFrame5 | rdFrame6 | nop => cases h; exact ⟨rfl, .none _⟩

/-- Every row of the bus table is a read or a write of a window offset (rule R43). -/
theorem busTable_rows (w : Word) : ∀ r ∈ busTable,
    (∃ off, encode (r.instr w) = .read off) ∨ ∃ off v, encode (r.instr w) = .write off v := by
  simp only [busTable, List.forall_mem_append, controlRows, sampleRows, crcRows, frameRows, List.forall_mem_cons]
  simp [encode]

/-- Bus decode gives bus rows only: a command reaches the block as a write to CMD (rules R43 and R77). -/
theorem decodeAccess_bus {a : Access} {i : Instr} (h : decodeAccess a = .ok i) :
    (∃ off, encode i = .read off) ∨ ∃ off w, encode i = .write off w := by
  have key : ∀ {k : BusKey} {w : Word} {j : Instr}, decodeKey k w = some j →
      (∃ off, encode j = .read off) ∨ ∃ off v, encode j = .write off v := by
    intro k w j hj
    obtain ⟨r, hr, rfl⟩ := Option.map_eq_some_iff.1 hj
    exact busTable_rows w r (List.mem_of_find?_eq_some hr)
  obtain ⟨dir, off, size⟩ := a
  simp only [decodeAccess] at h
  split at h
  · cases h
  split at h
  · cases h
  have row : ∀ {k : BusKey} {w : Word}, decodeRow off k w = .ok i →
      (∃ o, encode i = .read o) ∨ ∃ o v, encode i = .write o v := by
    intro k w hrow
    unfold decodeRow at hrow
    split at hrow
    · next j hj => cases hrow; exact key hj
    · cases hrow
  cases dir <;> exact row h

/-- Taking the next input never changes the block, but for a reset. -/
theorem fetch_block (s : State) :
    (∀ t, fetch s = .done t → (nextIsReset s ∧ t.block = Block.reset) ∨ t.block = s.block) ∧
    ∀ i t, fetch s = .perform i t → t.block = s.block ∧ nextInstr s = some i := by
  refine ⟨fun t h => ?_, fun i t h => ⟨?_, by simp [nextInstr, h]⟩⟩
  · unfold fetch at h
    split at h
    · cases h; exact .inr rfl
    · unfold fetchAccess at h; split at h <;> cases h; exact .inr rfl
    · split at h
      · unfold fetchAccess at h; split at h <;> cases h; exact .inr rfl
      · cases h
    · next hp => cases h; exact .inl ⟨by simp [nextIsReset, hp], rfl⟩
    · cases h
    · cases h
  · unfold fetch at h
    split at h
    · cases h
    · unfold fetchAccess at h; split at h <;> cases h; rfl
    · split at h
      · unfold fetchAccess at h; split at h <;> cases h; rfl
      · cases h
    · cases h
    · cases h
    · cases h

/-- What a step can do to the block: a reset; nothing; or the effect of the instruction it performs. -/
theorem step_cases {s t : State} (h : step s = .next t) :
    (nextIsReset s ∧ t.block = Block.reset) ∨ t.block = s.block ∨
      ∃ i, nextInstr s = some i ∧ Effect s.block i t.block := by
  obtain ⟨hd, hp⟩ := fetch_block s
  unfold step at h
  split at h
  · next u hf => cases h; exact (hd _ hf).elim .inl fun e => .inr (.inl e)
  · next i u hf =>
    obtain ⟨hb, hn⟩ := hp _ _ hf
    exact .inr (.inr ⟨i, hn, hb ▸ (exec_effect h).2⟩)
  · cases h

/-- The next step performs a bus row; a command reaches it inside a write to CMD. -/
theorem nextInstr_bus {s : State} {i : Instr} (h : nextInstr s = some i) :
    (∃ off, encode i = .read off) ∨ ∃ off w, encode i = .write off w := by
  have acc : ∀ {a : Access} {t u : State}, fetchAccess a t = .perform i u →
      (∃ off, encode i = .read off) ∨ ∃ off w, encode i = .write off w := by
    intro a t u hf
    unfold fetchAccess at hf
    split at hf
    · next j hj => cases hf; exact decodeAccess_bus hj
    · cases hf
  unfold nextInstr at h
  split at h
  · next j u hf =>
    cases h
    unfold fetch at hf
    split at hf
    · cases hf
    · exact acc hf
    · split at hf
      · exact acc hf
      · cases hf
    · cases hf
    · cases hf
    · cases hf
  · cases h
  · cases h

/-- The word CRC_BYTE encodes to selects CRC_BYTE with its byte (rule R65). -/
theorem decodeCommand_crcByte (b : Byte) :
    decodeCommand (0x00000005#32 ||| (b.setWidth 32 <<< 8)) = some (.crcByte b) := by
  have all : ∀ c : Byte, decodeCommand (0x00000005#32 ||| (c.setWidth 32 <<< 8)) = some (.crcByte c) := by
    decide +kernel
  exact all b

/-- A step at the transaction that carries an instruction has that instruction's meaning; a command is carried by a write
to CMD (rules R44 and R77). -/
theorem step_ofInstr {s : State} {i : Instr} {rest : List Input} (h : s.pending = Input.ofInstr i :: rest) :
    step s = exec i { s with pending := rest } := by
  obtain ⟨b, p, r⟩ := s
  subst h
  cases i with
  | crcByte c =>
    change execWrCmd (0x00000005#32 ||| (c.setWidth 32 <<< 8)) _ = _
    simp only [execWrCmd, decodeCommand_crcByte]
    rfl
  | _ => rfl

/-- Every instruction answers a next state (rule R87). -/
theorem exec_next (i : Instr) (s : State) : ∃ t, exec i s = .next t := by
  cases i with
  | wrCmd w =>
    obtain ⟨rfl, hw⟩ | ⟨rfl, hw⟩ | ⟨rfl, hw⟩ | ⟨rfl, hw⟩ | ⟨rfl, hw⟩ | ⟨-, hw⟩ | hw := decodeCommand_cases w <;>
      exact ⟨_, by simp only [exec, execWrCmd, hw]; rfl⟩
  | _ => exact ⟨_, rfl⟩

/-- A run of one step more begins with a step. -/
theorem run_succ (n : Nat) {s t : State} (h : step s = .next t) :
    Sys2Proof.core.run (n + 1) s = Sys2Proof.core.run n t := by
  have h' : Sys2Proof.core.step s = .next t := h
  simp only [Host.Core.run, h']

end Sys2Proof.Machine
end

