-- ==== Sys2Proof/Tests/Slice0.lean ====
section
/-! SUPPORT. Tests: the checks of WellFormed.lean refuse, words of the encoding tables decode, instructions do what the
vectors of 95_test_vectors.md say, and witnesses for the hypotheses of the statements in
Certificates/Slice0/Obligations.lean. Expected values are the spec's, cited by vector or rule. -/

namespace Sys2Proof.Tests

open Sys2Proof Sys2Proof.Machine

/-! ## Well-formedness: one ill-formed term per check -/

theorem test_wf_refuses_size : (Access.mk .read 0x10#8 2).wellFormed = false := by decide
theorem test_wf_refuses_misaligned : (Access.mk .read 0x12#8 4).wellFormed = false := by decide
theorem test_wf_refuses_hole : (Access.mk .read 0x2C#8 4).wellFormed = false := by decide
theorem test_wf_refuses_beyond_map : (Access.mk .read 0x5C#8 4).wellFormed = false := by decide
theorem test_wf_refuses_reserved_bits : commandWellFormed 0x00010005#32 = false := by decide
theorem test_wf_refuses_reserved_op : commandWellFormed 0x00000006#32 = false := by decide
theorem test_wf_refuses_imm8 : commandWellFormed 0x00000101#32 = false := by decide
theorem test_wf_accepts_last_register : (Access.mk .read 0x58#8 4).wellFormed = true := by decide

/-! ## Decoding: words written out from rules R43 to R47 (`dir`, then the offset; reserved, IMM8, OP) -/

theorem test_decode_control :
    decodeTableWord 16 0b0_00000000 = some .rdCtrl ∧ decodeTableWord 16 0b1_00000000 = some (.wrCtrl 0#32) ∧
    decodeTableWord 16 0b0_00000100 = some .rdFrameLen ∧ decodeTableWord 16 0b1_00000100 = some (.wrFrameLen 0#32) ∧
    decodeTableWord 16 0b0_00001000 = some .rdCmd ∧ decodeTableWord 16 0b1_00001000 = some (.wrCmd 0#32) ∧
    decodeTableWord 16 0b0_00001100 = some .rdErr ∧ decodeTableWord 16 0b1_00001100 = some (.wrErr 0#32) := by decide

theorem test_decode_samples :
    decodeTableWord 16 0b0_00010000 = some .rdAccX ∧ decodeTableWord 16 0b1_00010000 = some (.wrAccX 0#32) ∧
    decodeTableWord 16 0b0_00010100 = some .rdAccY ∧ decodeTableWord 16 0b1_00010100 = some (.wrAccY 0#32) ∧
    decodeTableWord 16 0b0_00011000 = some .rdAccZ ∧ decodeTableWord 16 0b1_00011000 = some (.wrAccZ 0#32) ∧
    decodeTableWord 16 0b0_00011100 = some .rdGyrX ∧ decodeTableWord 16 0b1_00011100 = some (.wrGyrX 0#32) ∧
    decodeTableWord 16 0b0_00100000 = some .rdGyrY ∧ decodeTableWord 16 0b1_00100000 = some (.wrGyrY 0#32) ∧
    decodeTableWord 16 0b0_00100100 = some .rdGyrZ ∧ decodeTableWord 16 0b1_00100100 = some (.wrGyrZ 0#32) ∧
    decodeTableWord 16 0b0_00101000 = some .rdSelftest ∧ decodeTableWord 16 0b1_00101000 = some (.wrSelftest 0#32) := by
  decide

theorem test_decode_crc :
    decodeTableWord 16 0b0_00110000 = some .rdCrcState ∧ decodeTableWord 16 0b1_00110000 = some (.wrCrcState 0#32) ∧
    decodeTableWord 16 0b0_00110100 = some .rdCrcResult ∧ decodeTableWord 16 0b1_00110100 = some (.wrCrcResult 0#32) ∧
    decodeTableWord 16 0b0_00111000 = some .rdCrcData8 ∧ decodeTableWord 16 0b1_00111000 = some (.wrCrcData8 0#32) ∧
    decodeTableWord 16 0b0_00111100 = some .rdCrcData32 ∧ decodeTableWord 16 0b1_00111100 = some (.wrCrcData32 0#32) := by
  decide

theorem test_decode_frame_reads :
    decodeTableWord 16 0b0_01000000 = some .rdFrame0 ∧ decodeTableWord 16 0b0_01000100 = some .rdFrame1 ∧
    decodeTableWord 16 0b0_01001000 = some .rdFrame2 ∧ decodeTableWord 16 0b0_01001100 = some .rdFrame3 ∧
    decodeTableWord 16 0b0_01010000 = some .rdFrame4 ∧ decodeTableWord 16 0b0_01010100 = some .rdFrame5 ∧
    decodeTableWord 16 0b0_01011000 = some .rdFrame6 := by decide

theorem test_decode_frame_writes :
    decodeTableWord 16 0b1_01000000 = some (.wrFrame0 0#32) ∧ decodeTableWord 16 0b1_01000100 = some (.wrFrame1 0#32) ∧
    decodeTableWord 16 0b1_01001000 = some (.wrFrame2 0#32) ∧ decodeTableWord 16 0b1_01001100 = some (.wrFrame3 0#32) ∧
    decodeTableWord 16 0b1_01010000 = some (.wrFrame4 0#32) ∧ decodeTableWord 16 0b1_01010100 = some (.wrFrame5 0#32) ∧
    decodeTableWord 16 0b1_01011000 = some (.wrFrame6 0#32) := by decide

theorem test_decode_commands :
    decodeTableWord 32 0b0000000000000000_00000000_00000000 = some .nop ∧
    decodeTableWord 32 0b0000000000000000_00000000_00000001 = some .build ∧
    decodeTableWord 32 0b0000000000000000_00000000_00000010 = some .probe ∧
    decodeTableWord 32 0b0000000000000000_00000000_00000011 = some .frameClr ∧
    decodeTableWord 32 0b0000000000000000_00000000_00000100 = some .crcInit ∧
    decodeTableWord 32 0b0000000000000000_00110001_00000101 = some (.crcByte 0x31#8) := by decide

/-- V14: the illegal words. -/
theorem test_decode_illegal_words :
    [0x00010005#32, 0x00000006#32, 0x000000FF#32, 0x00000101#32, 0x80000001#32, 0x00010000#32, 0xFFFFFFFF#32,
      0x00000100#32].filterMap decodeCommand = [] := by decide

/-- V16: the priority of the checks; line 10 is misaligned and would be a write to a read-only register. -/
theorem test_decode_bus_errors :
    decodeAccess ⟨.write 0x5678#32, 0x11#8, 2⟩ = .error (.badSize 0x11#8) ∧
    decodeAccess ⟨.write 0x0#32, 0x41#8, 4⟩ = .error (.misaligned 0x41#8) ∧
    decodeAccess ⟨.write 0x1#32, 0x2C#8, 4⟩ = .error (.unmapped 0x2C#8) ∧
    decodeAccess ⟨.read, 0x40#8, 8⟩ = .error (.badSize 0x40#8) := ⟨rfl, rfl, rfl, rfl⟩

/-! ## Helpers -/

/-- What `f` says of the next state, if there is one. -/
def after {α : Type} (o : Host.Outcome State Fault Refusal) (f : State → α) : Option α :=
  match o with
  | .next s => some (f s)
  | .fault _ => none
  | .refused _ => none

/-- The inputs of V1 in the registers, at reset otherwise. -/
def v1 : State :=
  { State.reset with block := { Block.reset with
      samples := #v[0x0064#16, 0xFF38#16, 0x012C#16, 0xFFFF#16, 0x0000#16, 0x7FFF#16], agPass := true, magPass := true } }

/-- V1 with `CRC_EN = 1` (the first case of V12). -/
def v12 : State := { v1 with block := { v1.block with crcEn := true } }

/-- Both ERR bits set and both mode bits set, at reset otherwise. -/
def flagged : State :=
  { State.reset with block := { Block.reset with illegalCmd := true, roWrite := true, crcEn := true, stickySt := true } }

/-- A frame buffer that shows two earlier Passes, in legacy mode with no Pass now (V3, after iteration N). -/
def stale : State :=
  { State.reset with block := { Block.reset with
      stickySt := true, len := 23#8, frame := ((Block.reset.frame.set 0 0x7E#8).set 21 0x01#8).set 22 0x01#8 } }

/-- A machine with one input pending. -/
def pending (i : Input) : State := { State.reset with pending := [i] }

/-! ## The frame encoder -/

/-- V1: the frame of the source's end-to-end example. -/
theorem test_build_v1 : after (exec .build v1) (fun t => t.block.offeredFrame) = some
    [0x7E#8, 0x64#8, 0x00#8, 0x38#8, 0xFF#8, 0x2C#8, 0x01#8, 0xFF#8, 0xFF#8, 0x00#8, 0x00#8, 0xFF#8, 0x7F#8, 0#8, 0#8,
      0#8, 0#8, 0#8, 0#8, 0#8, 0#8, 0x01#8, 0x01#8] := by decide +kernel

/-- V12, first case: the trailer bytes and the length. -/
theorem test_build_v12 : after (exec .build v12) (fun t => t.block.offeredFrame.drop 23) =
    some [0x6F#8, 0x6A#8, 0xBB#8, 0xA3#8] := by decide +kernel

/-- V3: in legacy mode a Pass stays. -/
theorem test_build_sticky : after (exec .build stale) (fun t => frameWord t.block.frame 5) = some 0x00010100#32 := by
  decide +kernel

/-- V3: in the hardened mode it does not. -/
theorem test_build_not_sticky :
    after (exec (.wrCmd 0x00000001#32) { stale with block := { stale.block with stickySt := false } })
      (fun t => frameWord t.block.frame 5) = some 0x00000000#32 := by decide +kernel

/-- Rule R55: PROBE keeps bytes 1 to 26. -/
theorem test_probe : after (exec .probe stale) (fun t => (t.block.len, frameWord t.block.frame 0, frameWord t.block.frame 5)) =
    some (1#8, 0x000000AA#32, 0x00010100#32) := by decide +kernel

/-- V4: FRAME_CLR clears the flags. -/
theorem test_frameClr : after (exec .frameClr stale) (fun t => (t.block.len, frameWord t.block.frame 5)) =
    some (0#8, 0x00000000#32) := by decide +kernel

theorem test_nop : after (exec .nop v1) (fun t => (t.block, t.response)) = some (v1.block, some .okay) := by decide +kernel

/-! ## The CRC engine -/

/-- V10. -/
theorem test_crcStep8 : crcStep8 0xFFFFFFFF#32 0x00#8 = 0x2DFD1072#32 ∧ crcStep8 0x12345678#32 0x9A#8 = 0x4E16B702#32 ∧
    crcStep8 0xDEBB20E3#32 0x00#8 = 0x39DD08E2#32 := by decide +kernel

/-- V2: the check value. -/
theorem test_crc32_check :
    crc32 [0x31#8, 0x32#8, 0x33#8, 0x34#8, 0x35#8, 0x36#8, 0x37#8, 0x38#8, 0x39#8] = 0xCBF43926#32 := by decide +kernel

/-- V13, line 3. -/
theorem test_crcByte : after (exec (.crcByte 0x31#8) State.reset) (fun t => t.block.crcState) = some 0x7C231048#32 := by
  decide +kernel

/-- Rule R66: bits 31:8 are ignored. -/
theorem test_wrCrcData8 : after (exec (.wrCrcData8 0x00000131#32) State.reset) (fun t => t.block.crcState) =
    some 0x7C231048#32 := by decide +kernel

/-- V13, line 10: lane 0 first. -/
theorem test_wrCrcData32 : after (exec (.wrCrcData32 0x34333231#32) State.reset) (fun t => t.block.crcState) =
    some 0x641C1F5C#32 := by decide +kernel

theorem test_crcInit : after (exec .crcInit { v1 with block := { v1.block with crcState := 0x12345678#32 } })
    (fun t => t.block.crcState) = some 0xFFFFFFFF#32 := by decide +kernel

/-- V13, lines 30 and 31. -/
theorem test_rdCrcResult : after (exec .rdCrcResult { v1 with block := { v1.block with crcState := 0x00000000#32 } })
    (fun t => t.response) = some (some (.data 0xFFFFFFFF#32)) := by decide +kernel

theorem test_wrCrcState : after (exec (.wrCrcState 0x12345678#32) v1) (fun t => t.block.crcState) = some 0x12345678#32 := by
  decide +kernel

/-! ## Register access -/

/-- V15, lines 1 and 2. -/
theorem test_wrCtrl : after (exec (.wrCtrl 0xFFFFFFFF#32) State.reset) (fun t => ctrlWord t.block) = some 0x00000003#32 := by
  decide +kernel

/-- V15, lines 3 and 4. -/
theorem test_rdCtrl : after (exec .rdCtrl { v1 with block := { v1.block with stickySt := true } }) (fun t => t.response) =
    some (some (.data 0x00000002#32)) := by decide +kernel

/-- V15, lines 5 and 6: a sample reads back zero-extended. -/
theorem test_wrAccY : after (exec (.wrAccY 0xFFFFFF38#32) State.reset) (fun t => sampleWord t.block 1) =
    some 0x0000FF38#32 := by decide +kernel

/-- V15, lines 7 and 8: bits 31:16 are dropped. -/
theorem test_wrAccX : after (exec (.wrAccX 0x00018000#32) State.reset) (fun t => sampleWord t.block 0) =
    some 0x00008000#32 := by decide +kernel

theorem test_rdGyrZ : after (exec .rdGyrZ v1) (fun t => t.response) = some (some (.data 0x00007FFF#32)) := by decide +kernel

/-- V15, lines 13 and 14. -/
theorem test_wrSelftest : after (exec (.wrSelftest 0xFFFFFFFE#32) State.reset) (fun t => selftestWord t.block) =
    some 0x00000002#32 := by decide +kernel

/-- V15, lines 23 and 24. -/
theorem test_wrErr : after (exec (.wrErr 0x00000001#32) flagged) (fun t => errWord t.block) = some 0x00000002#32 := by
  decide +kernel

/-- V15, lines 16 to 18. -/
theorem test_wrFrameLen : after (exec (.wrFrameLen 0x00000017#32) State.reset) (fun t => (t.block.len, errWord t.block)) =
    some (0#8, 0x00000002#32) := by decide +kernel

/-- V15, lines 19 and 20. -/
theorem test_wrCmd_illegal : after (exec (.wrCmd 0x00000007#32) State.reset) (fun t => (t.response, errWord t.block)) =
    some (some .okay, 0x00000001#32) := by decide +kernel

/-! ## The step -/

/-- V16, line 9: a 1-byte write of BUILD's opcode is not performed. -/
theorem test_step_busError :
    after (step (pending (.access ⟨.write 0x01#32, 0x08#8, 1⟩))) (fun t => (t.block, t.pending, t.response)) =
      some (Block.reset, [], some (.error (.busError 0x08#8))) := by decide +kernel

/-- Rule R101: the reset input. -/
theorem test_step_reset : after (step { flagged with pending := [.reset] }) (fun t => t.block) = some Block.reset := by
  decide +kernel

theorem test_step_fetchWord_bus :
    after (step (State.reset.withFetchWord 16 0x108)) (fun t => (t.pending, t.response)) = some ([], some .okay) := by
  decide +kernel

theorem test_step_fetchWord_command :
    after (step (State.reset.withFetchWord 32 0x00000002)) (fun t => t.block.len) = some 1#8 := by decide +kernel

/-- Rule R48: a negative decimal is 16 bits in a sample register and 32 bits elsewhere. -/
theorem test_assemble_literals :
    assemble (.wr .accY (.dec (-200))) = [⟨.write 0x0000FF38#32, 0x14#8, 4⟩] ∧
    assemble (.wr .crcState (.dec (-1))) = [⟨.write 0xFFFFFFFF#32, 0x30#8, 4⟩] ∧
    assemble (.wr .crcData8 (.chr '1')) = [⟨.write 0x00000031#32, 0x38#8, 4⟩] := by decide

/-! ## Witnesses: states and operands that meet the hypotheses of the statements, all of a statement's together -/

theorem witness_DecodeInvertsEncode : decode (.command 0x00000001#32) = some .build := by decide

theorem witness_BusDecodeChecksInOrder :
    (Access.mk .read 0x10#8 2).size ≠ 4 ∧
    ((Access.mk .read 0x5B#8 4).size = 4 ∧ (0x5B#8).extractLsb' 0 2 ≠ 0#2) ∧
    ((Access.mk .read 0x5C#8 4).size = 4 ∧ (0x5C#8).extractLsb' 0 2 = 0#2 ∧
      ∀ r ∈ busTable, r.key ≠ (Access.mk .read 0x5C#8 4).key) ∧
    ((Access.mk .read 0x58#8 4).size = 4 ∧ (0x58#8).extractLsb' 0 2 = 0#2 ∧
      ∃ r ∈ busTable, r.key = (Access.mk .read 0x58#8 4).key) := by decide

theorem witness_RegisterMapIsWhatDecodes : regAccess .frame6 = .ro ∧ regAccess .cmd = .wo := by decide

theorem witness_CommandWordSelectsItsRow : decodeCommand 0x0000FF05#32 = some (.crcByte 0xFF#8) := by decide

/-- Also the second clause of `CrcByteAndData8FeedOneByte` and the last of `NopChangesNothing`. -/
theorem witness_IllegalWordOnlySetsIllegalCmd :
    decodeCommand 0x00010005#32 = none ∧ (0x00010005#32).extractLsb' 0 8 = 0x05#8 ∧
    (0x00010005#32).extractLsb' 16 16 ≠ 0#16 ∧
    (0x00000100#32).extractLsb' 0 8 = 0x00#8 ∧ (0x00000100#32).extractLsb' 8 24 ≠ 0#24 := by decide

theorem witness_WriteCmdPerformsTheCommand :
    decodeCommand 0x00000003#32 = some .frameClr ∧ decodeCommand 0x000000FF#32 = none := by decide

/-- One witness per clause, at the ends of the ranges. -/
theorem witness_ScriptLinesStandForTheirTransactions :
    (ScriptLine.crcInit, Instr.crcInit) ∈ [(ScriptLine.nop, Instr.nop), (.build, .build), (.probe, .probe),
      (.frameClr, .frameClr), (.crcInit, .crcInit)] ∧
    0xFFFFFFFF < 2 ^ 32 ∧ ((-32768 : Int) < 0 ∧ -2 ^ 15 ≤ (-32768 : Int) ∧ regIsSample .gyrZ = true) ∧
    ((-2147483648 : Int) < 0 ∧ -2 ^ 31 ≤ (-2147483648 : Int) ∧ regIsSample .crcState = false) ∧
    ('1').toNat < 128 := by decide

theorem witness_StepRunsDecodedInstruction :
    decodeAccess ⟨.read, 0x58#8, 4⟩ = .ok .rdFrame6 ∧
    (pending (.access ⟨.read, 0x58#8, 4⟩)).pending = .access ⟨.read, 0x58#8, 4⟩ :: [] ∧
    (pending (.busAccess (busAddress 0x58#8) .read 4)).pending = .busAccess (busAddress 0x58#8) .read 4 :: [] :=
  ⟨rfl, rfl, rfl⟩

theorem witness_BadAccessAnswersBusError :
    (pending (.access ⟨.read, 0x10#8, 8⟩)).pending = .access ⟨.read, 0x10#8, 8⟩ :: [] ∧ (8 : Nat) ≠ 4 ∧
    (0x03#8).extractLsb' 0 2 ≠ 0#2 ∧ 0x5C ≤ (0x5C#8).toNat := by decide

theorem witness_IdleBlockChangesNothing : State.reset.pending = [] := rfl

theorem witness_SecondMasterAndTornResetRefused :
    (pending (.otherMaster ⟨.read, 0x00#8, 4⟩)).pending = .otherMaster ⟨.read, 0x00#8, 4⟩ :: [] ∧
    (pending (.resetInside ⟨.read, 0x00#8, 4⟩)).pending = .resetInside ⟨.read, 0x00#8, 4⟩ :: [] := by decide

theorem witness_WindowIsSeenAtBlockBase :
    windowOffset (Config.blockBase + 0xFF) = some 0xFF#8 ∧
    (pending (.busAccess (Config.blockBase + 256) .read 4)).pending = .busAccess (Config.blockBase + 256) .read 4 :: [] ∧
    Config.blockBase + 256 ≤ Config.blockBase + 256 := by
  refine ⟨?_, rfl, Nat.le_refl _⟩
  rw [windowOffset, if_pos ⟨Nat.le_add_right _ _, Nat.add_lt_add_left (by decide) _⟩, Nat.add_sub_cancel_left]

theorem witness_ResetSetsEveryComponent :
    ({ flagged with pending := [.reset] } : State).pending = .reset :: [] := rfl

theorem witness_ReadsRightAfterReset :
    State.reset.block = State.reset.block ∧
    Instr.rdFrame6 ∈ [Instr.rdCtrl, .rdFrameLen, .rdCmd, .rdErr, .rdAccX, .rdAccY, .rdAccZ, .rdGyrX, .rdGyrY, .rdGyrZ,
      .rdSelftest, .rdCrcResult, .rdCrcData8, .rdCrcData32, .rdFrame0, .rdFrame1, .rdFrame2, .rdFrame3, .rdFrame4,
      .rdFrame5, .rdFrame6] := by simp

theorem witness_ReadsHaveNoSideEffect : encode .rdFrame6 = .read 0x58#8 := rfl

theorem witness_ReadFrameWindow :
    ((6 : Nat), 0x058#9, Instr.rdFrame6) ∈ [(0, 0x040#9, Instr.rdFrame0), (1, 0x044#9, .rdFrame1), (2, 0x048#9, .rdFrame2),
      (3, 0x04C#9, .rdFrame3), (4, 0x050#9, .rdFrame4), (5, 0x054#9, .rdFrame5), (6, 0x058#9, .rdFrame6)] := by simp

theorem witness_ReadWriteOnlyRegister :
    (0x008#9, Instr.rdCmd) ∈ [(0x008#9, Instr.rdCmd), (0x038#9, .rdCrcData8), (0x03C#9, .rdCrcData32)] := by decide

theorem witness_ReadSample :
    ((5 : Fin 6), 0x024#9, Instr.rdGyrZ) ∈ [((0 : Fin 6), 0x010#9, Instr.rdAccX), (1, 0x014#9, .rdAccY), (2, 0x018#9, .rdAccZ),
      (3, 0x01C#9, .rdGyrX), (4, 0x020#9, .rdGyrY), (5, 0x024#9, .rdGyrZ)] := by simp

theorem witness_WriteReadOnlyRegister :
    (0x158#9, Instr.wrFrame6 0#32) ∈ [(0x104#9, Instr.wrFrameLen 0#32), (0x134#9, .wrCrcResult 0#32), (0x140#9, .wrFrame0 0#32),
      (0x144#9, .wrFrame1 0#32), (0x148#9, .wrFrame2 0#32), (0x14C#9, .wrFrame3 0#32), (0x150#9, .wrFrame4 0#32),
      (0x154#9, .wrFrame5 0#32), (0x158#9, .wrFrame6 0#32)] := by simp

theorem witness_WriteSample :
    ((5 : Fin 6), 0x124#9, Instr.wrGyrZ 1#32) ∈ [((0 : Fin 6), 0x110#9, Instr.wrAccX 1#32), (1, 0x114#9, .wrAccY 1#32),
      (2, 0x118#9, .wrAccZ 1#32), (3, 0x11C#9, .wrGyrX 1#32), (4, 0x120#9, .wrGyrY 1#32), (5, 0x124#9, .wrGyrZ 1#32)] ∧
    (0 : Fin 6) ≠ 5 := by simp

/-- BUILD in legacy mode, as a named command: none of the excluded instructions, and it answers a next state. -/
theorem witness_RepeatingAnAccessIsIdempotent :
    (∀ b, Instr.build ≠ .crcByte b) ∧ (∀ w, Instr.build ≠ .wrCrcData8 w) ∧ (∀ w, Instr.build ≠ .wrCrcData32 w) ∧
    (∀ w b, Instr.build = .wrCmd w → decodeCommand w ≠ some (.crcByte b)) ∧ ∃ t, exec .build stale = .next t :=
  ⟨by simp, by simp, by simp, by simp, _, rfl⟩

theorem witness_StreamingEqualsOneShot :
    [Instr.wrCmd 0x00003105#32, .build, .wrCrcData32 0x35343332#32].map feedOf =
      [[0x31#8], [], [0x32#8, 0x33#8, 0x34#8, 0x35#8]].map some ∧ State.reset.block = State.reset.block := by decide

theorem witness_Crc32AndItsCheckValue : v12.block.crcEn = true := rfl

theorem witness_ReceiverCheckResidue : v12.block.crcEn = true := rfl

theorem witness_OnlyCrcOperationsChangeCrcState :
    after (step { v1 with pending := [Input.ofInstr (.wrCrcState 0#32)] })
      (fun t => decide (t.block.crcState ≠ v1.block.crcState)) = some true := by decide +kernel

theorem witness_BuildEncodesTheInputs :
    v1.block.stickySt = false ∧ v1.block.crcEn = false ∧ stale.block.stickySt = true ∧ v12.block.crcEn = true := by decide

theorem witness_OnlyFrameCommandsChangeTheFrame :
    after (step { v1 with pending := [Input.ofInstr .build] })
      (fun t => decide (t.block.frame ≠ v1.block.frame ∧ t.block.len ≠ v1.block.len)) = some true := by decide +kernel

theorem witness_OnlyTheirWritesChangeTheInputs :
    ¬ nextIsReset { v1 with pending := [Input.ofInstr (.wrCtrl 3#32)] } ∧
    after (step { v1 with pending := [Input.ofInstr (.wrCtrl 3#32)] })
      (fun t => decide (t.block.crcEn ≠ v1.block.crcEn)) = some true ∧
    after (step { v1 with pending := [Input.ofInstr (.wrSelftest 0#32)] })
      (fun t => decide (t.block.agPass ≠ v1.block.agPass)) = some true ∧
    [Instr.wrAccX 5#32, .wrAccY 5#32, .wrAccZ 5#32, .wrGyrX 5#32, .wrGyrY 5#32, .wrGyrZ 5#32].map
      (fun i => after (step { v1 with pending := [Input.ofInstr i] })
        (fun t => decide (t.block.samples ≠ v1.block.samples))) =
      [some true, some true, some true, some true, some true, some true] :=
  ⟨by simp [nextIsReset, Input.ofInstr], by decide +kernel, by decide +kernel, by decide +kernel⟩

theorem witness_ErrBitsAreSticky :
    (v1.block.illegalCmd = false ∧ v1.block.roWrite = false ∧
      after (step { v1 with pending := [Input.ofInstr (.wrCmd 6#32)] }) (fun t => t.block.illegalCmd) = some true ∧
      after (step { v1 with pending := [Input.ofInstr (.wrFrame0 6#32)] }) (fun t => t.block.roWrite) = some true) ∧
    flagged.block.illegalCmd = true ∧ flagged.block.roWrite = true ∧
      after (step { flagged with pending := [Input.ofInstr (.wrErr 3#32)] })
        (fun t => (t.block.illegalCmd, t.block.roWrite)) = some (false, false) := by decide +kernel

theorem witness_StickyPassSurvives :
    stale.block.stickySt = true ∧ FrameBuffer.at stale.block.frame 21 = 0x01#8 ∧
    FrameBuffer.at stale.block.frame 22 = 0x01#8 ∧
    after (step { stale with pending := [Input.ofInstr .build] }) (fun t => t.response) = some (some .okay) := by
  decide +kernel

theorem witness_BuildWithoutStickyHasNoHistory :
    v1.block.stickySt = false ∧ v1.block.samples = v1.block.samples ∧ v1.block.agPass = v1.block.agPass ∧
    v1.block.magPass = v1.block.magPass ∧ v1.block.crcEn = v1.block.crcEn := by decide

theorem witness_SteadyStateIterationFrame : v1.block.crcEn = false ∧ v1.block.stickySt = false := by decide

/-- The reset block meets the invariants of rule R27 and a step is taken from it; proved here from its bytes so that the
statement about reset is left to the provers. -/
theorem witness_StepKeepsFrameInvariants :
    State.reset.block.len = 0#8 ∧ (∀ j : Fin 28, FrameBuffer.at State.reset.block.frame j.val = 0x00#8) ∧
    after (step { State.reset with pending := [Input.ofInstr .build] }) (fun t => t.block.len) = some 23#8 := by
  decide +kernel

theorem witness_ReachableBlocksMeetFrameInvariants :
    after (Sys2Proof.core.run 1 { State.reset with pending := [Input.ofInstr .probe] }) (fun t => t.block.len) =
      some 1#8 := by decide +kernel

end Sys2Proof.Tests
end

section
/-! PROOFS. The scope of the block (00_scope.md, 20_memory.md): it is seen in its window at `BLOCK_BASE` and nowhere else,
and it starts no transaction of its own. First the rules for the window and for taking an input, then the statements. -/

namespace Sys2Proof.Machine

/-! ### The window on the bus -/

/-- The two spellings of the window agree: one offset for each of its addresses (rule R28). -/
theorem windowOffset_eq_some_iff {addr : Nat} {off : Offset} :
    windowOffset addr = some off ↔ addr = Config.blockBase + off.toNat := by
  have hoff : off.toNat < 256 := off.isLt
  unfold windowOffset
  rw [Config.windowBytes_val]
  split
  · rw [Option.some_inj, ← BitVec.toNat_inj, BitVec.toNat_ofNat]
    omega
  · exact iff_of_false (by simp) (by omega)

theorem windowOffset_eq_none_iff {addr : Nat} :
    windowOffset addr = none ↔ addr < Config.blockBase ∨ Config.blockBase + 256 ≤ addr := by
  rw [windowOffset, Config.windowBytes_val, ite_eq_right_iff]
  simp only [reduceCtorEq, imp_false]
  omega

@[simp] theorem windowOffset_blockBase_add (off : Offset) :
    windowOffset (Config.blockBase + off.toNat) = some off :=
  windowOffset_eq_some_iff.2 rfl

/-! ### Taking the next input -/

theorem fetch_of_idle {s : State} (h : s.pending = []) : fetch s = .done s := by
  rw [fetch, h]

/-- A transaction at a bus address of the window is taken as the one at its offset, whatever its size (log entry 11). -/
theorem fetch_busAccess_inside {s : State} {addr : Nat} {off : Offset} (dir : Direction) (size : Nat)
    (rest : List Input) (h : windowOffset addr = some off) :
    fetch { s with pending := .busAccess addr dir size :: rest } =
      fetch { s with pending := .access ⟨dir, off, size⟩ :: rest } := by
  simp only [fetch, h]

theorem fetch_busAccess_outside {s : State} {addr : Nat} {dir : Direction} {size : Nat} {rest : List Input}
    (hp : s.pending = .busAccess addr dir size :: rest) (h : windowOffset addr = none) :
    fetch s = .refuse (.outsideWindow addr) := by
  simp only [fetch, hp, h]

/-! ### A step from what was taken -/

theorem step_of_fetch_done {s t : State} (h : fetch s = .done t) : step s = .next t := by
  rw [step, h]

theorem step_of_fetch_refuse {s : State} {r : Refusal} (h : fetch s = .refuse r) : step s = .refused r := by
  rw [step, h]

/-- A step depends on its state only through what is taken from it. -/
theorem step_congr_fetch {s t : State} (h : fetch s = fetch t) : step s = step t := by
  rw [step, step, h]

/-! ### The statements -/

/-- Settles O13: the idle fetch asks for nothing, and the step goes on at the same state. -/
theorem idleBlockChangesNothing : Obligations.IdleBlockChangesNothing := by
  intro s h
  exact step_of_fetch_done (fetch_of_idle h)

/-- Settles O16: the window's map from addresses to offsets inverts `BLOCK_BASE + offset`, and it alone decides how a
transaction at a bus address is taken. -/
theorem windowIsSeenAtBlockBase : Obligations.WindowIsSeenAtBlockBase := by
  refine ⟨?base, windowOffset_blockBase_add, ?onlyThere, ?inside, ?outside⟩
  case base => exact ⟨Config.blockPage, Config.blockBase_eq⟩
  case onlyThere =>
    intro addr off h
    exact windowOffset_eq_some_iff.1 h
  case inside =>
    intro s off dir size rest
    exact step_congr_fetch (fetch_busAccess_inside dir size rest (windowOffset_blockBase_add off))
  case outside =>
    intro s addr dir size rest hp haddr
    exact step_of_fetch_refuse (fetch_busAccess_outside hp (windowOffset_eq_none_iff.2 haddr))

end Sys2Proof.Machine
end

section
/-! PROOFS. The block's state (10_state.md): what may change the frame, the inputs and the ERR bits, and the invariants of
rule R27. First what a step can do to each part of the block, then the invariants, then the statements. -/

namespace Sys2Proof.Machine

/-! ### Which steps change a part of the block -/

/-- A step that changes the block is a reset or performs an instruction with its effect. -/
theorem step_effect_of_ne {s t : State} (h : step s = .next t) (hne : t.block ≠ s.block) :
    nextIsReset s ∨ ∃ i, nextInstr s = some i ∧ Effect s.block i t.block := by
  obtain ⟨hr, -⟩ | he | hi := step_cases h
  · exact .inl hr
  · exact absurd he hne
  · exact .inr hi

/-- A command is never performed by name: it reaches the block inside a write to CMD (rule R44). -/
theorem encode_ne_command_of_nextInstr {s : State} {i : Instr} (h : nextInstr s = some i) (c : Word) :
    encode i ≠ .command c := by
  obtain ⟨off, hi⟩ | ⟨off, w, hi⟩ := nextInstr_bus h <;> simp [hi]

/-- What an instruction can do to the frame buffer and `LEN` (rules R15 and R24). -/
theorem Effect.frame_cases {b c : Block} {i : Instr} (h : Effect b i c) :
    (c.frame = b.frame ∧ c.len = b.len) ∨ ((i = .build ∨ i = .wrCmd 0x00000001#32) ∧ c = b.build) ∨
    ((i = .probe ∨ i = .wrCmd 0x00000002#32) ∧ c = b.probe) ∨
    ((i = .frameClr ∨ i = .wrCmd 0x00000003#32) ∧ c = b.clearFrame) := by
  cases h with
  | build _ hi => exact .inr (.inl ⟨hi, rfl⟩)
  | probe _ hi => exact .inr (.inr (.inl ⟨hi, rfl⟩))
  | frameClr _ hi => exact .inr (.inr (.inr ⟨hi, rfl⟩))
  | _ => exact .inl ⟨rfl, rfl⟩

/-- Everything a step can do to the frame buffer and `LEN` (rules R15 and R24). -/
theorem step_frame_cases {s t : State} (h : step s = .next t) :
    (t.block.frame = s.block.frame ∧ t.block.len = s.block.len) ∨ (nextIsReset s ∧ t.block = Block.reset) ∨
    (nextInstr s = some (.wrCmd 0x00000001#32) ∧ t.block = s.block.build) ∨
    (nextInstr s = some (.wrCmd 0x00000002#32) ∧ t.block = s.block.probe) ∨
    (nextInstr s = some (.wrCmd 0x00000003#32) ∧ t.block = s.block.clearFrame) := by
  obtain hr | he | ⟨i, hi, heff⟩ := step_cases h
  · exact .inr (.inl hr)
  · exact .inl (by simp [he])
  have bus := encode_ne_command_of_nextInstr hi
  obtain hkeep | ⟨rfl | rfl, hb⟩ | ⟨rfl | rfl, hb⟩ | ⟨rfl | rfl, hb⟩ := heff.frame_cases
  · exact .inl hkeep
  · exact absurd rfl (bus _)
  · exact .inr (.inr (.inl ⟨hi, hb⟩))
  · exact absurd rfl (bus _)
  · exact .inr (.inr (.inr (.inl ⟨hi, hb⟩)))
  · exact absurd rfl (bus _)
  · exact .inr (.inr (.inr (.inr ⟨hi, hb⟩)))

/-- Only WR CTRL changes a configuration bit (rule R14). -/
theorem Effect.ctrl_cases {b c : Block} {i : Instr} (h : Effect b i c) :
    (c.crcEn = b.crcEn ∧ c.stickySt = b.stickySt) ∨ ∃ w, i = .wrCtrl w := by
  cases h with
  | ctrl w => exact .inr ⟨w, rfl⟩
  | _ => exact .inl ⟨rfl, rfl⟩

/-- Only WR SELFTEST changes a self-test input (rule R19). -/
theorem Effect.selftest_cases {b c : Block} {i : Instr} (h : Effect b i c) :
    (c.agPass = b.agPass ∧ c.magPass = b.magPass) ∨ ∃ w, i = .wrSelftest w := by
  cases h with
  | selftest w => exact .inr ⟨w, rfl⟩
  | _ => exact .inl ⟨rfl, rfl⟩

/-- The write to the register of sample `k` (rule R18). -/
def sampleWrite (k : Fin 6) (w : Word) : Instr :=
  match k with
  | 0 => .wrAccX w
  | 1 => .wrAccY w
  | 2 => .wrAccZ w
  | 3 => .wrGyrX w
  | 4 => .wrGyrY w
  | 5 => .wrGyrZ w

/-- An instruction leaves the samples alone or is the write to the one sample it sets (rules R18 and R83). -/
theorem Effect.samples_cases {b c : Block} {i : Instr} (h : Effect b i c) :
    c.samples = b.samples ∨ ∃ k w, i = sampleWrite k w ∧ c.samples = b.samples.set k (sampleField w) := by
  cases h with
  | accX w => exact .inr ⟨0, w, rfl, rfl⟩
  | accY w => exact .inr ⟨1, w, rfl, rfl⟩
  | accZ w => exact .inr ⟨2, w, rfl, rfl⟩
  | gyrX w => exact .inr ⟨3, w, rfl, rfl⟩
  | gyrY w => exact .inr ⟨4, w, rfl, rfl⟩
  | gyrZ w => exact .inr ⟨5, w, rfl, rfl⟩
  | _ => exact .inl rfl

/-- A sample changes only by the write to its own register. -/
theorem Effect.sampleWrite_of_ne {b c : Block} {i : Instr} (h : Effect b i c) {k : Fin 6}
    (hne : c.samples[k] ≠ b.samples[k]) : ∃ w, i = sampleWrite k w := by
  obtain heq | ⟨j, w, hi, hset⟩ := h.samples_cases
  · exact absurd (by rw [heq]) hne
  · by_cases hjk : j = k
    · exact ⟨w, hjk ▸ hi⟩
    · refine absurd ?_ hne
      simp only [hset, Fin.getElem_fin]
      exact Vector.getElem_set_ne _ _ (Fin.val_ne_of_ne hjk)

/-- `ILLEGAL_CMD` is kept, set by an illegal command word, or cleared by WR ERR with bit 0 (rule R17). -/
theorem Effect.illegalCmd_cases {b c : Block} {i : Instr} (h : Effect b i c) :
    c.illegalCmd = b.illegalCmd ∨ (c.illegalCmd = true ∧ ∃ w, i = .wrCmd w ∧ decodeCommand w = Option.none) ∨
    (c.illegalCmd = false ∧ ∃ w, i = .wrErr w ∧ w.getLsbD 0 = true) := by
  cases h with
  | clearErrors w =>
    cases hw : bit0 w
    · exact .inl (by simp [hw])
    · exact .inr (.inr ⟨by simp [hw], w, rfl, hw⟩)
  | illegal w hw => exact .inr (.inl ⟨rfl, w, rfl, hw⟩)
  | _ => exact .inl rfl

/-- `RO_WRITE` is kept, set by a write to a read-only register, or cleared by WR ERR with bit 1 (rule R17). -/
theorem Effect.roWrite_cases {b c : Block} {i : Instr} (h : Effect b i c) :
    c.roWrite = b.roWrite ∨
    (c.roWrite = true ∧ ∃ w, i ∈ [Instr.wrFrameLen w, .wrCrcResult w, .wrFrame0 w, .wrFrame1 w, .wrFrame2 w,
      .wrFrame3 w, .wrFrame4 w, .wrFrame5 w, .wrFrame6 w]) ∨
    (c.roWrite = false ∧ ∃ w, i = .wrErr w ∧ w.getLsbD 1 = true) := by
  cases h with
  | clearErrors w =>
    cases hw : bit1 w
    · exact .inl (by simp [hw])
    · exact .inr (.inr ⟨by simp [hw], w, rfl, hw⟩)
  | readOnly w _ hi => exact .inr (.inl ⟨rfl, w, hi⟩)
  | _ => exact .inl rfl

/-- A flag that reset clears, and that an instruction sets as `sets` or clears as `clears` only, is set or cleared by a step
that performs such an instruction, or cleared by reset. -/
theorem step_flag_changes {flag : Block → Bool} {sets clears : Instr → Prop} {s t : State} (h : step s = .next t)
    (hreset : flag Block.reset = false)
    (heffect : ∀ {b c : Block} {i : Instr}, Effect b i c →
      flag c = flag b ∨ (flag c = true ∧ sets i) ∨ (flag c = false ∧ clears i)) :
    (flag s.block = false → flag t.block = true → ∃ i, nextInstr s = some i ∧ sets i) ∧
    (flag s.block = true → flag t.block = false → nextIsReset s ∨ ∃ i, nextInstr s = some i ∧ clears i) := by
  obtain ⟨hr, hb⟩ | he | ⟨i, hi, heff⟩ := step_cases h
  · exact ⟨fun _ ht => by simp [hb, hreset] at ht, fun _ _ => .inl hr⟩
  · exact ⟨fun hs ht => by simp [he, hs] at ht, fun hs ht => by simp [he, hs] at ht⟩
  obtain hkeep | ⟨hon, hsets⟩ | ⟨hoff, hclears⟩ := heffect heff
  · exact ⟨fun hs ht => by simp [hkeep, hs] at ht, fun hs ht => by simp [hkeep, hs] at ht⟩
  · exact ⟨fun _ _ => ⟨i, hi, hsets⟩, fun _ ht => by simp [hon] at ht⟩
  · exact ⟨fun _ ht => by simp [hoff] at ht, fun _ _ => .inr ⟨i, hi, hclears⟩⟩

/-! ### What BUILD makes of the frame -/

theorem Block.build_frame_at_body (b : Block) {j : Nat} (h : j < 23) :
    FrameBuffer.at b.build.frame j = FrameBuffer.at (buildBody b) j :=
  appendTrailer_at_body _ _ j h

theorem Block.build_marker (b : Block) : FrameBuffer.at b.build.frame 0 = 0x7E#8 :=
  (b.build_frame_at_body (by decide)).trans (buildBody_at b 0 (by decide))

theorem Block.build_agByte (b : Block) :
    FrameBuffer.at b.build.frame 21 = selftestByte b.stickySt b.agPass (FrameBuffer.at b.frame 21) :=
  (b.build_frame_at_body (by decide)).trans (buildBody_at b 21 (by decide))

theorem Block.build_magByte (b : Block) :
    FrameBuffer.at b.build.frame 22 = selftestByte b.stickySt b.magPass (FrameBuffer.at b.frame 22) :=
  (b.build_frame_at_body (by decide)).trans (buildBody_at b 22 (by decide))

theorem Block.build_reserved (b : Block) {j : Nat} (h13 : 13 ≤ j) (h20 : j ≤ 20) :
    FrameBuffer.at b.build.frame j = 0x00#8 := by
  rw [b.build_frame_at_body (by omega), buildBody_at b j (by omega)]
  interval_cases j <;> rfl

/-- A recorded Pass stays with `STICKY_ST = 1` (rule R53). -/
theorem selftestByte_sticky_pass (pass : Bool) : selftestByte true pass 0x01#8 = 0x01#8 := by
  cases pass <;> rfl

/-- With `STICKY_ST = 0` the byte shows the latest outcome alone (rule R53). -/
theorem selftestByte_not_sticky (pass : Bool) (old : Byte) : selftestByte false pass old = passByte pass := rfl

/-- A self-test byte stays 0x00 or 0x01 (rule R53). -/
theorem selftestByte_flag (sticky pass : Bool) {old : Byte} (h : old = 0x00#8 ∨ old = 0x01#8) :
    selftestByte sticky pass old = 0x00#8 ∨ selftestByte sticky pass old = 0x01#8 := by
  cases sticky <;> cases pass
  · exact .inl rfl
  · exact .inr rfl
  · exact h
  · exact .inr rfl

/-- The body of BUILD is a function of the samples, the self-test inputs and, with `STICKY_ST = 0`, nothing else. -/
theorem buildBody_at_congr {b c : Block} (hb : b.stickySt = false) (hc : c.stickySt = false)
    (hs : b.samples = c.samples) (hag : b.agPass = c.agPass) (hmag : b.magPass = c.magPass) {j : Nat} (h : j < 23) :
    FrameBuffer.at (buildBody b) j = FrameBuffer.at (buildBody c) j := by
  simp only [buildBody_at _ _ h, hb, hc, hs, hag, hmag, selftestByte_not_sticky]

/-- The trailer step is a function of bytes 0 to 22: it computes or clears all the others (rule R54). -/
theorem appendTrailer_congr (crcEn : Bool) {f g : FrameBuffer}
    (h : ∀ j < 23, FrameBuffer.at f j = FrameBuffer.at g j) : appendTrailer crcEn f = appendTrailer crcEn g := by
  refine FrameBuffer.ext_at fun j hj => ?_
  by_cases hbody : j < 23
  · rw [appendTrailer_at_body _ _ _ hbody, appendTrailer_at_body _ _ _ hbody, h j hbody]
  · obtain ⟨k, rfl⟩ := Nat.exists_eq_add_of_le (Nat.le_of_not_lt hbody)
    have hk : k < 4 := by change 23 + k < 27 at hj; omega
    cases crcEn
    · rw [appendTrailer_at_off _ _ hk, appendTrailer_at_off _ _ hk]
    · rw [appendTrailer_at_on _ _ hk, appendTrailer_at_on _ _ hk, FrameBuffer.first_congr h]

/-! ### The invariants of rule R27 -/

/-- The invariants speak of the frame buffer and `LEN` only. -/
theorem Block.Inv.congr {b c : Block} (hf : c.frame = b.frame) (hl : c.len = b.len) (h : b.Inv) : c.Inv := by
  obtain ⟨h1, h2, h3, h4, h5, h6⟩ := h
  constructor <;> simp only [hf, hl] <;> assumption

/-- A zeroed buffer with `LEN` 0 meets the invariants. -/
theorem Block.inv_of_cleared {b : Block} (hf : b.frame = Vector.replicate Config.bufferBytes 0x00#8)
    (hl : b.len = 0x00#8) : b.Inv where
  flagBytes j _ := .inl (by rw [hf, FrameBuffer.at_zero])
  lengths := .inl hl
  reserved j _ _ := by rw [hf, FrameBuffer.at_zero]
  plainFrame h := absurd (hl.symm.trans h) (by decide)
  trailerFrame h := absurd (hl.symm.trans h) (by decide)
  probeFrame h := absurd (hl.symm.trans h) (by decide)

/-- BUILD writes every byte the invariants speak of but the self-test bytes, which stay flags (rules R51 to R54). -/
theorem Block.Inv.build {b : Block} (h : b.Inv) : b.build.Inv where
  flagBytes := by
    rintro j (rfl | rfl)
    · exact b.build_agByte ▸ selftestByte_flag _ _ (h.flagBytes 21 (.inl rfl))
    · exact b.build_magByte ▸ selftestByte_flag _ _ (h.flagBytes 22 (.inr rfl))
  lengths := by cases hc : b.crcEn <;> simp [builtLen, hc]
  reserved _ := b.build_reserved
  plainFrame hlen := by
    have hoff : b.crcEn = false := by by_contra hon; simp [builtLen, hon] at hlen
    refine ⟨b.build_marker, fun j h23 h26 => ?_⟩
    obtain ⟨k, rfl⟩ := Nat.exists_eq_add_of_le h23
    rw [Block.build_frame, hoff, appendTrailer_at_off _ _ (by omega)]
  trailerFrame hlen := by
    have hon : b.crcEn = true := by by_contra hoff; simp [builtLen, hoff] at hlen
    have htrail (j : Nat) (hj : j < 4) := appendTrailer_at_on (buildBody b) j hj
    refine ⟨b.build_marker, ?_⟩
    rw [Block.build_frame, hon, appendTrailer_first, le32, ← htrail 0, ← htrail 1, ← htrail 2, ← htrail 3] <;> decide
  probeFrame hlen := by cases hc : b.crcEn <;> simp [builtLen, hc] at hlen

/-- PROBE writes byte 0 and `LEN` 1 together (rule R55). -/
theorem Block.Inv.probe {b : Block} (h : b.Inv) : b.probe.Inv := by
  have hkeep (j : Nat) (hj : 0 ≠ j) : FrameBuffer.at b.probe.frame j = FrameBuffer.at b.frame j :=
    FrameBuffer.at_put_other _ _ _ _ hj
  exact {
    flagBytes := fun j hj => by rw [hkeep j (by omega)]; exact h.flagBytes j hj
    lengths := .inr (.inl rfl)
    reserved := fun j h13 h20 => by rw [hkeep j (by omega)]; exact h.reserved j h13 h20
    plainFrame := fun hlen => absurd (b.probe_len.symm.trans hlen) (by decide)
    trailerFrame := fun hlen => absurd (b.probe_len.symm.trans hlen) (by decide)
    probeFrame := fun _ => FrameBuffer.at_put_same _ _ _ (by decide) }

theorem Block.inv_reset : Block.reset.Inv := Block.inv_of_cleared rfl rfl

theorem step_keeps_inv {s t : State} (hs : s.block.Inv) (h : step s = .next t) : t.block.Inv := by
  obtain ⟨hf, hl⟩ | ⟨-, hb⟩ | ⟨-, hb⟩ | ⟨-, hb⟩ | ⟨-, hb⟩ := step_frame_cases h
  · exact hs.congr hf hl
  · exact hb ▸ Block.inv_reset
  · exact hb ▸ hs.build
  · exact hb ▸ hs.probe
  · exact hb ▸ Block.inv_of_cleared rfl rfl

/-- What every step keeps holds along every run. -/
theorem run_keeps {P : State → Prop} (hstep : ∀ s t, P s → step s = .next t → P t) (n : Nat) {s t : State}
    (hs : P s) (h : core.run n s = .next t) : P t := by
  induction n generalizing s with
  | zero => cases h; exact hs
  | succ n ih =>
    cases hu : step s with
    | next u => exact ih (hstep s u hs hu) (run_succ n hu ▸ h)
    | fault r => simp [Host.Core.run, show core.step s = .fault r from hu] at h
    | refused r => simp [Host.Core.run, show core.step s = .refused r from hu] at h

/-! ### The FRAME window -/

/-- Byte lane `j` of a word is the byte it was made of (rule R33). -/
theorem wordOfLanes_lane (f : Nat → Byte) {j : Nat} (h : j < 4) :
    (wordOfLanes (f 3) (f 2) (f 1) (f 0)).extractLsb' (8 * j) 8 = f j := by
  have above {v : Nat} {hi : BitVec v} {lo : Byte} (n : Nat) :
      (hi ++ lo).extractLsb' (n + 8) 8 = hi.extractLsb' n 8 := BitVec.extractLsb'_append_eq_of_le (by omega)
  interval_cases j
  · exact BitVec.extractLsb'_append_eq_right
  · exact (above 0).trans BitVec.extractLsb'_append_eq_right
  · exact (above 8).trans ((above 0).trans BitVec.extractLsb'_append_eq_right)
  · exact (above 16).trans ((above 8).trans BitVec.extractLsb'_append_eq_left)

theorem frameWord_lane (f : FrameBuffer) (k : Nat) {j : Nat} (h : j < 4) :
    (frameWord f k).extractLsb' (8 * j) 8 = FrameBuffer.at f (4 * k + j) :=
  wordOfLanes_lane (fun j => FrameBuffer.at f (4 * k + j)) h

theorem FrameBuffer.at_eq_getD (f : FrameBuffer) (i : Nat) : FrameBuffer.at f i = (f[i]?).getD 0x00#8 := by
  unfold FrameBuffer.at
  split <;> simp [*]

/-! ### The statements -/

/-- Settles O59, by what a step can do to the frame: only BUILD, PROBE, FRAME_CLR and reset change it, and each leaves a
block that meets the invariants. -/
theorem stepKeepsFrameInvariants : Obligations.StepKeepsFrameInvariants :=
  fun _ _ => step_keeps_inv

/-- Settles O23: the lanes of the word are the bytes of the buffer, and byte 27 is beyond its storage. -/
theorem readFrameWindow : Obligations.ReadFrameWindow := by
  intro s k key i hrow
  have lanes (j : Nat) (hj : j < 4) := (frameWord_lane s.block.frame k hj).trans (FrameBuffer.at_eq_getD _ _)
  simp only [List.mem_cons, Prod.mk.injEq, List.not_mem_nil, or_false] at hrow
  obtain ⟨rfl, rfl, rfl⟩ | ⟨rfl, rfl, rfl⟩ | ⟨rfl, rfl, rfl⟩ | ⟨rfl, rfl, rfl⟩ | ⟨rfl, rfl, rfl⟩ | ⟨rfl, rfl, rfl⟩ |
    ⟨rfl, rfl, rfl⟩ := hrow <;> exact ⟨fun _ => rfl, _, rfl, lanes⟩

/-- Settles O50: each step that does not leave the frame and `LEN` as they were is one of the four. -/
theorem onlyFrameCommandsChangeTheFrame : Obligations.OnlyFrameCommandsChangeTheFrame := by
  intro s t h hne
  obtain ⟨hf, hl⟩ | ⟨hr, -⟩ | ⟨hi, -⟩ | ⟨hi, -⟩ | ⟨hi, -⟩ := step_frame_cases h
  · exact (hne.elim (· hf) (· hl)).elim
  · exact .inl hr
  · exact .inr ⟨_, hi, .inl rfl⟩
  · exact .inr ⟨_, hi, .inr (.inl rfl)⟩
  · exact .inr ⟨_, hi, .inr (.inr rfl)⟩

/-- Settles O51: without a reset the change is the effect of the instruction performed, and only its own register's write
has that effect. -/
theorem onlyTheirWritesChangeTheInputs : Obligations.OnlyTheirWritesChangeTheInputs := by
  intro s t h hnr
  have effect (hne : t.block ≠ s.block) := (step_effect_of_ne h hne).resolve_left hnr
  have sample (k : Fin 6) (hne : t.block.samples[k] ≠ s.block.samples[k]) :
      ∃ w, nextInstr s = some (sampleWrite k w) := by
    obtain ⟨i, hi, heff⟩ := effect fun e => hne (by rw [e])
    obtain ⟨w, rfl⟩ := heff.sampleWrite_of_ne hne
    exact ⟨w, hi⟩
  refine ⟨fun hne => ?ctrl, fun hne => ?selftest, sample 0, sample 1, sample 2, sample 3, sample 4, sample 5⟩
  case ctrl =>
    obtain ⟨i, hi, heff⟩ := effect fun e => by simp [e] at hne
    obtain ⟨hcrc, hst⟩ | ⟨w, rfl⟩ := heff.ctrl_cases
    · exact (hne.elim (· hcrc) (· hst)).elim
    · exact ⟨w, hi⟩
  case selftest =>
    obtain ⟨i, hi, heff⟩ := effect fun e => by simp [e] at hne
    obtain ⟨hag, hmag⟩ | ⟨w, rfl⟩ := heff.selftest_cases
    · exact (hne.elim (· hag) (· hmag)).elim
    · exact ⟨w, hi⟩

/-- Settles O52: reset clears both bits, and otherwise each bit changes by the effect of the instruction performed. -/
theorem errBitsAreSticky : Obligations.ErrBitsAreSticky := by
  intro s t h
  obtain ⟨illegalSet, illegalClear⟩ := step_flag_changes h rfl Effect.illegalCmd_cases
  obtain ⟨roSet, roClear⟩ := step_flag_changes h rfl Effect.roWrite_cases
  refine ⟨fun hs ht => ?illegalSet, fun hs ht => ?illegalClear, fun hs ht => ?roSet, fun hs ht => ?roClear⟩
  case illegalSet =>
    obtain ⟨_, hi, w, rfl, hw⟩ := illegalSet hs ht
    exact ⟨w, hi, hw⟩
  case illegalClear =>
    obtain hr | ⟨_, hi, w, rfl, hw⟩ := illegalClear hs ht
    · exact .inl hr
    · exact .inr ⟨w, hi, hw⟩
  case roSet =>
    obtain ⟨i, hi, w, hw⟩ := roSet hs ht
    exact ⟨w, i, hi, hw⟩
  case roClear =>
    obtain hr | ⟨_, hi, w, rfl, hw⟩ := roClear hs ht
    · exact .inl hr
    · exact .inr ⟨w, hi, hw⟩

/-- Settles O53: BUILD keeps a recorded Pass while `STICKY_ST` is 1, and PROBE writes byte 0 only. -/
theorem stickyPassSurvives : Obligations.StickyPassSurvives := by
  intro s t h hsticky j hj hpass
  obtain ⟨hf, -⟩ | ⟨hr, -⟩ | ⟨-, hb⟩ | ⟨-, hb⟩ | ⟨hi, -⟩ := step_frame_cases h
  · exact .inl (hf ▸ hpass)
  · exact .inr (.inl hr)
  · left
    obtain rfl | rfl := hj
    · rw [hb, Block.build_agByte, hsticky, hpass, selftestByte_sticky_pass]
    · rw [hb, Block.build_magByte, hsticky, hpass, selftestByte_sticky_pass]
  · left
    rw [hb, Block.probe_frame, FrameBuffer.at_put_other _ _ _ _ (by omega), hpass]
  · exact .inr (.inr hi)

/-- Settles O54: with `STICKY_ST = 0` bytes 0 to 22 are a function of the inputs, and the trailer and `LEN` are a function
of those bytes and `CRC_EN`. -/
theorem buildWithoutStickyHasNoHistory : Obligations.BuildWithoutStickyHasNoHistory := by
  intro s t hs ht hsamples hag hmag hcrc
  refine ⟨_, _, rfl, rfl, ?frame, ?len⟩
  case frame =>
    simp only [State.answerOkay_block, Block.build_frame, hcrc]
    exact appendTrailer_congr _ fun j hj => buildBody_at_congr hs ht hsamples hag hmag hj
  case len => simp [hcrc]

/-- Settles O60, by induction on the number of steps: reset meets the invariants and every step keeps them. -/
theorem reachableBlocksMeetFrameInvariants : Obligations.ReachableBlocksMeetFrameInvariants :=
  fun _ n _ h => run_keeps (P := fun s => s.block.Inv) (fun _ _ => step_keeps_inv) n Block.inv_reset h

/-- Settles O58. -/
theorem resetMeetsFrameInvariants : Obligations.ResetMeetsFrameInvariants :=
  Block.inv_reset

end Sys2Proof.Machine
end

section
/-! PROOFS. The register map and its accesses (20_memory.md): which accesses decode, what a bad one answers, and which
accesses may be repeated. First the rules for bus decode, for the step at a transaction, for a command word and for
repeating an instruction, then the statements. -/

namespace Sys2Proof

/-! ### Bus decode -/

theorem decodeRow_eq_ok_iff {off : Offset} {k : BusKey} {w : Word} {i : Instr} :
    decodeRow off k w = .ok i ↔ decodeKey k w = some i := by
  unfold decodeRow
  split <;> simp [*]

theorem decodeRow_error {off : Offset} {k : BusKey} {w : Word} {r : Reject} (h : decodeRow off k w = .error r) :
    r = .unmapped off := by
  unfold decodeRow at h
  split at h <;> cases h
  rfl

/-- An access decodes when it passes the two checks and its key selects a row (rule R42). -/
theorem decodeAccess_eq_ok_iff {a : Access} {i : Instr} :
    decodeAccess a = .ok i ↔ a.size = 4 ∧ a.offset.extractLsb' 0 2 = 0#2 ∧ decodeKey a.key a.wdata = some i := by
  obtain ⟨dir, off, size⟩ := a
  by_cases hsize : size = 4
  · by_cases halign : off.extractLsb' 0 2 = 0#2
    · cases dir <;> simp [decodeAccess, hsize, halign, decodeRow_eq_ok_iff, Access.key, Access.wdata]
    · simp [decodeAccess, hsize, halign]
  · simp [decodeAccess, hsize]

/-- Whichever check an access fails, the BusError names its offset (rules R42 and R88). -/
theorem decodeAccess_error_offset {a : Access} {r : Reject} (h : decodeAccess a = .error r) : r.offset = a.offset := by
  obtain ⟨dir, off, size⟩ := a
  simp only [decodeAccess] at h
  split at h
  · cases h; rfl
  split at h
  · cases h; rfl
  cases dir <;> exact decodeRow_error h ▸ rfl

/-- A key selects a row exactly when it is one of the table's keys (rule R43). -/
theorem decodeKey_isSome_iff {k : BusKey} {w : Word} :
    (∃ i, decodeKey k w = some i) ↔ k ∈ busTable.map BusRow.key := by
  rw [← Option.isSome_iff_exists, decodeKey, Option.isSome_map, List.find?_isSome]
  simp

/-- The low byte of a key is its offset (rule R41). -/
theorem Access.key_offset (a : Access) : a.key.extractLsb' 0 8 = a.offset := by
  obtain ⟨_ | _, off, size⟩ := a <;> exact BitVec.extractLsb'_append_eq_right

namespace Machine

/-! ### The register map -/

/-- The registers in the order of rule R29. -/
def registers : List Reg :=
  [.ctrl, .frameLen, .cmd, .err, .accX, .accY, .accZ, .gyrX, .gyrY, .gyrZ, .selftest, .crcState, .crcResult, .crcData8,
    .crcData32, .frame0, .frame1, .frame2, .frame3, .frame4, .frame5, .frame6]

theorem mem_registers (r : Reg) : r ∈ registers := by
  cases r <;> decide

/-- The bus table has the read key and the write key of each register, and no others (rules R29 and R43). -/
theorem busTable_keys :
    busTable.map BusRow.key = registers.flatMap fun r => [readKey (regOffset r), writeKey (regOffset r)] :=
  rfl

/-- The key of an access selects a row exactly when its offset is a register's, whichever its direction. -/
theorem decodeKey_key_isSome_iff {a : Access} {w : Word} :
    (∃ i, decodeKey a.key w = some i) ↔ ∃ r, a.offset = regOffset r := by
  rw [decodeKey_isSome_iff, busTable_keys]
  constructor
  · intro h
    obtain ⟨r, -, hr⟩ := List.mem_flatMap.1 h
    have hkey : a.key = readKey (regOffset r) ∨ a.key = writeKey (regOffset r) := by simpa using hr
    refine ⟨r, ?_⟩
    rw [← a.key_offset]
    obtain hk | hk := hkey <;> rw [hk] <;> exact BitVec.extractLsb'_append_eq_right
  · rintro ⟨r, hr⟩
    refine List.mem_flatMap.2 ⟨r, mem_registers r, ?_⟩
    obtain ⟨dir, off, size⟩ := a
    obtain rfl : off = regOffset r := hr
    cases dir with
    | read => exact List.mem_cons_self
    | write w => exact List.mem_cons_of_mem _ List.mem_cons_self

theorem regOffset_aligned (r : Reg) : (regOffset r).extractLsb' 0 2 = 0#2 := by
  cases r <;> rfl

/-- The map has a hole at 0x2C and ends at 0x5B (rule R30). -/
theorem regOffset_mapped (r : Reg) : regOffset r ≠ 0x2C#8 ∧ (regOffset r).toNat < 0x5C := by
  cases r <;> decide

/-- An access decodes exactly when it is 4 bytes wide at the offset of a register (rules R29 and R34). -/
theorem decodeAccess_isOk_iff {a : Access} :
    (∃ i, decodeAccess a = .ok i) ↔ a.size = 4 ∧ ∃ r, a.offset = regOffset r := by
  simp only [decodeAccess_eq_ok_iff, exists_and_left, decodeKey_key_isSome_iff]
  exact ⟨fun ⟨hsize, _, hr⟩ => ⟨hsize, hr⟩, fun ⟨hsize, r, hr⟩ => ⟨hsize, hr ▸ regOffset_aligned r, r, hr⟩⟩

/-! ### The step at a transaction -/

theorem fetch_access {s : State} {a : Access} {rest : List Input} (hp : s.pending = .access a :: rest) :
    fetch s = fetchAccess a { s with pending := rest } := by
  simp only [fetch, hp]

theorem step_of_fetch_perform {s t : State} {i : Instr} (h : fetch s = .perform i t) : step s = exec i t := by
  rw [step, h]

theorem step_access_ok {s : State} {a : Access} {rest : List Input} {i : Instr}
    (hp : s.pending = .access a :: rest) (h : decodeAccess a = .ok i) :
    step s = exec i { s with pending := rest } :=
  step_of_fetch_perform (by rw [fetch_access hp, fetchAccess, h])

/-- An access that does not decode is a BusError that names its offset (rule R88). -/
theorem step_access_error {s : State} {a : Access} {rest : List Input} {r : Reject}
    (hp : s.pending = .access a :: rest) (h : decodeAccess a = .error r) :
    step s = .next { s with pending := rest, response := some (.error (.busError a.offset)) } := by
  rw [← decodeAccess_error_offset h]
  exact step_of_fetch_done (by rw [fetch_access hp, fetchAccess, h]; rfl)

/-! ### Command words -/

/-- A write to CMD is the command its word selects (rule R77). -/
theorem exec_wrCmd_of_decodeCommand {w : Word} {i : Instr} (h : decodeCommand w = some i) (s : State) :
    exec (.wrCmd w) s = exec i s := by
  obtain ⟨-, hw⟩ | ⟨-, hw⟩ | ⟨-, hw⟩ | ⟨-, hw⟩ | ⟨-, hw⟩ | ⟨-, hw⟩ | hw := decodeCommand_cases w <;>
    cases hw.symm.trans h <;> simp only [exec, execWrCmd, hw]

theorem exec_wrCmd_of_illegal {w : Word} (h : decodeCommand w = none) (s : State) :
    exec (.wrCmd w) s = .next (s.answerOkay s.block.setIllegalCmd) := by
  simp only [exec, execWrCmd, h]
  rfl

/-- A command word selects an instruction of the command format only (rule R45). -/
theorem encode_of_decodeCommand {w : Word} {i : Instr} (h : decodeCommand w = some i) :
    ∃ c, encode i = .command c := by
  obtain ⟨-, hw⟩ | ⟨-, hw⟩ | ⟨-, hw⟩ | ⟨-, hw⟩ | ⟨-, hw⟩ | ⟨-, hw⟩ | hw := decodeCommand_cases w <;>
    cases hw.symm.trans h <;> exact ⟨_, rfl⟩

/-! ### Reads -/

/-- A read answers a word that is a function of the block, and changes nothing in it (rule R36). -/
theorem exec_read {i : Instr} {off : Offset} (h : encode i = .read off) :
    ∃ word : Block → Word, ∀ s, exec i s = .next (s.answerData (word s.block)) := by
  cases i with
  | rdCtrl => exact ⟨ctrlWord, fun _ => rfl⟩
  | rdFrameLen => exact ⟨fun b => b.len.setWidth 32, fun _ => rfl⟩
  | rdErr => exact ⟨errWord, fun _ => rfl⟩
  | rdCmd | rdCrcData8 | rdCrcData32 => exact ⟨fun _ => writeOnlyWord, fun _ => rfl⟩
  | rdAccX => exact ⟨(sampleWord · 0), fun _ => rfl⟩
  | rdAccY => exact ⟨(sampleWord · 1), fun _ => rfl⟩
  | rdAccZ => exact ⟨(sampleWord · 2), fun _ => rfl⟩
  | rdGyrX => exact ⟨(sampleWord · 3), fun _ => rfl⟩
  | rdGyrY => exact ⟨(sampleWord · 4), fun _ => rfl⟩
  | rdGyrZ => exact ⟨(sampleWord · 5), fun _ => rfl⟩
  | rdSelftest => exact ⟨selftestWord, fun _ => rfl⟩
  | rdCrcState => exact ⟨Block.crcState, fun _ => rfl⟩
  | rdCrcResult => exact ⟨crcResultWord, fun _ => rfl⟩
  | rdFrame0 => exact ⟨(frameWord ·.frame 0), fun _ => rfl⟩
  | rdFrame1 => exact ⟨(frameWord ·.frame 1), fun _ => rfl⟩
  | rdFrame2 => exact ⟨(frameWord ·.frame 2), fun _ => rfl⟩
  | rdFrame3 => exact ⟨(frameWord ·.frame 3), fun _ => rfl⟩
  | rdFrame4 => exact ⟨(frameWord ·.frame 4), fun _ => rfl⟩
  | rdFrame5 => exact ⟨(frameWord ·.frame 5), fun _ => rfl⟩
  | rdFrame6 => exact ⟨(frameWord ·.frame 6), fun _ => rfl⟩
  | _ => cases h

/-! ### Block updates that repeat as one -/

theorem Block.setSample_setSample (b : Block) (k : Fin 6) (w : Word) :
    (b.setSample k w).setSample k w = b.setSample k w := by
  simp only [Block.setSample, Vector.set_set]

theorem Block.clearErrors_clearErrors (b : Block) (w : Word) :
    (b.clearErrors w).clearErrors w = b.clearErrors w := by
  cases h0 : bit0 w <;> cases h1 : bit1 w <;> simp [Block.clearErrors, h0, h1]

theorem Block.probe_probe (b : Block) : b.probe.probe = b.probe := by
  simp only [Block.probe, FrameBuffer.put, Vector.setIfInBounds_setIfInBounds]

/-- A self-test byte that BUILD wrote is written the same by the next BUILD, in either mode (rule R53). -/
theorem selftestByte_selftestByte (sticky pass : Bool) (old : Byte) :
    selftestByte sticky pass (selftestByte sticky pass old) = selftestByte sticky pass old := by
  cases sticky <;> cases pass <;> rfl

/-- BUILD reads its own frame in the two self-test bytes only, and those it leaves as a second BUILD would (rule R36). -/
theorem Block.build_build (b : Block) : b.build.build = b.build := by
  have hbody : ∀ j < 23, FrameBuffer.at (buildBody b.build) j = FrameBuffer.at (buildBody b) j := by
    intro j hj
    simp only [buildBody_at _ _ hj, Block.build_agByte, Block.build_magByte, selftestByte_selftestByte,
      Block.build_samples, Block.build_stickySt, Block.build_agPass, Block.build_magPass]
  have hframe : b.build.build.frame = b.build.frame := appendTrailer_congr b.crcEn hbody
  exact congrArg (fun f => { b.build with frame := f }) hframe

/-! ### Repeating an instruction -/

/-- Performing the instruction again gives the state that performing it once gave (rule R36). -/
def Repeatable (i : Instr) : Prop := ∀ s t : State, exec i s = .next t → exec i t = .next t

/-- A write repeats as one when its update of the block does. -/
theorem repeatable_of_answerOkay {i : Instr} (f : Block → Block)
    (hexec : ∀ s, exec i s = .next (s.answerOkay (f s.block))) (hf : ∀ b, f (f b) = f b) : Repeatable i := by
  intro s t h
  obtain rfl : s.answerOkay (f s.block) = t := by simpa [hexec] using h
  rw [hexec, State.answerOkay_block, hf]
  rfl

theorem repeatable_of_read {i : Instr} {off : Offset} (h : encode i = .read off) : Repeatable i := by
  obtain ⟨word, hexec⟩ := exec_read h
  intro s t ht
  obtain rfl : s.answerData (word s.block) = t := by simpa [hexec] using ht
  exact hexec _

theorem repeatable_of_command {i : Instr} {c : Word} (h : encode i = .command c) (hne : ∀ b, i ≠ .crcByte b) :
    Repeatable i := by
  cases i with
  | nop => exact repeatable_of_answerOkay id (fun _ => rfl) fun _ => rfl
  | build => exact repeatable_of_answerOkay Block.build (fun _ => rfl) Block.build_build
  | probe => exact repeatable_of_answerOkay Block.probe (fun _ => rfl) Block.probe_probe
  | frameClr => exact repeatable_of_answerOkay Block.clearFrame (fun _ => rfl) fun _ => rfl
  | crcInit => exact repeatable_of_answerOkay (·.setCrcState Config.crcInit) (fun _ => rfl) fun _ => rfl
  | crcByte b => exact absurd rfl (hne b)
  | _ => cases h

/-- A write to CMD repeats as its command does; an illegal word sets an ERR bit that stays set (rule R89). -/
theorem repeatable_wrCmd {w : Word} (hne : ∀ b, decodeCommand w ≠ some (.crcByte b)) : Repeatable (.wrCmd w) := by
  cases hw : decodeCommand w with
  | none => exact repeatable_of_answerOkay Block.setIllegalCmd (exec_wrCmd_of_illegal hw) fun _ => rfl
  | some i =>
    obtain ⟨c, hc⟩ := encode_of_decodeCommand hw
    have hi : Repeatable i := repeatable_of_command hc fun b hb => hne b (hb ▸ hw)
    intro s t h
    rw [exec_wrCmd_of_decodeCommand hw] at h ⊢
    exact hi s t h

theorem repeatable_of_not_feed {i : Instr} (hbyte : ∀ b, i ≠ .crcByte b) (h8 : ∀ w, i ≠ .wrCrcData8 w)
    (h32 : ∀ w, i ≠ .wrCrcData32 w) (hcmd : ∀ w b, i = .wrCmd w → decodeCommand w ≠ some (.crcByte b)) :
    Repeatable i := by
  cases i with
  | wrCmd w => exact repeatable_wrCmd fun b => hcmd w b rfl
  | wrCtrl w => exact repeatable_of_answerOkay (·.setCtrl w) (fun _ => rfl) fun _ => rfl
  | wrErr w => exact repeatable_of_answerOkay (·.clearErrors w) (fun _ => rfl) (Block.clearErrors_clearErrors · w)
  | wrAccX w => exact repeatable_of_answerOkay (·.setSample 0 w) (fun _ => rfl) (Block.setSample_setSample · 0 w)
  | wrAccY w => exact repeatable_of_answerOkay (·.setSample 1 w) (fun _ => rfl) (Block.setSample_setSample · 1 w)
  | wrAccZ w => exact repeatable_of_answerOkay (·.setSample 2 w) (fun _ => rfl) (Block.setSample_setSample · 2 w)
  | wrGyrX w => exact repeatable_of_answerOkay (·.setSample 3 w) (fun _ => rfl) (Block.setSample_setSample · 3 w)
  | wrGyrY w => exact repeatable_of_answerOkay (·.setSample 4 w) (fun _ => rfl) (Block.setSample_setSample · 4 w)
  | wrGyrZ w => exact repeatable_of_answerOkay (·.setSample 5 w) (fun _ => rfl) (Block.setSample_setSample · 5 w)
  | wrSelftest w => exact repeatable_of_answerOkay (·.setSelftest w) (fun _ => rfl) fun _ => rfl
  | wrCrcState w => exact repeatable_of_answerOkay (·.setCrcState w) (fun _ => rfl) fun _ => rfl
  | wrCrcData8 w => exact absurd rfl (h8 w)
  | wrCrcData32 w => exact absurd rfl (h32 w)
  | crcByte b => exact absurd rfl (hbyte b)
  | wrFrameLen _ | wrCrcResult _ | wrFrame0 _ | wrFrame1 _ | wrFrame2 _ | wrFrame3 _ | wrFrame4 _ | wrFrame5 _
  | wrFrame6 _ => exact repeatable_of_answerOkay Block.setRoWrite (fun _ => rfl) fun _ => rfl
  | nop | build | probe | frameClr | crcInit => exact repeatable_of_command rfl hbyte
  | rdCtrl | rdFrameLen | rdCmd | rdErr | rdAccX | rdAccY | rdAccZ | rdGyrX | rdGyrY | rdGyrZ | rdSelftest
  | rdCrcState | rdCrcResult | rdCrcData8 | rdCrcData32 | rdFrame0 | rdFrame1 | rdFrame2 | rdFrame3 | rdFrame4
  | rdFrame5 | rdFrame6 => exact repeatable_of_read rfl

/-- An instruction that feeds bytes is not idempotent at a state where a second feed of them changes `CRC_STATE` again. -/
theorem feed_again_changes_crcState {i : Instr} {bytes : List Byte} (s : State)
    (hexec : ∀ s, exec i s = .next (s.answerOkay (s.block.feedCrc bytes)))
    (hne : crcFeed (crcFeed s.block.crcState bytes) bytes ≠ crcFeed s.block.crcState bytes) :
    ∃ s t u, exec i s = .next t ∧ exec i t = .next u ∧ u.block.crcState ≠ t.block.crcState :=
  ⟨s, _, _, hexec s, hexec _, hne⟩

/-! ### The statements -/

/-- Settles O34: each update but a CRC feed sets its fields from the written word and from fields it leaves alone; BUILD
rewrites the self-test bytes to what they are. Zero bytes fed from reset give a counterexample for each feed. -/
theorem repeatingAnAccessIsIdempotent : Obligations.RepeatingAnAccessIsIdempotent := by
  refine ⟨fun i s t hbyte h8 h32 hcmd => repeatable_of_not_feed hbyte h8 h32 hcmd s t, ?feeds⟩
  have one : crcFeed (crcFeed 0xFFFFFFFF#32 [0x00#8]) [0x00#8] ≠ crcFeed 0xFFFFFFFF#32 [0x00#8] := by decide +kernel
  have four : crcFeed (crcFeed 0xFFFFFFFF#32 (le32 0x00000000#32)) (le32 0x00000000#32) ≠
      crcFeed 0xFFFFFFFF#32 (le32 0x00000000#32) := by decide +kernel
  simp only [List.forall_mem_cons]
  exact ⟨feed_again_changes_crcState State.reset (fun _ => rfl) one,
    feed_again_changes_crcState State.reset (fun _ => rfl) one,
    feed_again_changes_crcState State.reset (fun _ => rfl) four, by simp⟩

/-- Settles O4: the table's keys are the two keys of each register. -/
theorem registerMapIsWhatDecodes : Obligations.RegisterMapIsWhatDecodes := by
  refine ⟨fun _ => decodeAccess_isOk_iff, fun r w s h => ?readOnly, fun r s h => ?writeOnly⟩
  case readOnly =>
    cases r with
    | frameLen | crcResult | frame0 | frame1 | frame2 | frame3 | frame4 | frame5 | frame6 => exact ⟨_, rfl, rfl⟩
    | _ => cases h
  case writeOnly =>
    cases r with
    | cmd | crcData8 | crcData32 => exact ⟨_, rfl, rfl⟩
    | _ => cases h

/-- Settles O12: an access that is bad in any of the four ways is not 4 bytes wide at the offset of a register, so it does
not decode. -/
theorem badAccessAnswersBusError : Obligations.BadAccessAnswersBusError := by
  intro s a rest hp hbad
  cases ha : decodeAccess a with
  | error r => exact step_access_error hp ha
  | ok i =>
    obtain ⟨hsize, r, hr⟩ := decodeAccess_isOk_iff.1 ⟨i, ha⟩
    obtain ⟨hhole, hend⟩ := regOffset_mapped r
    rw [hr] at hbad
    obtain h | h | h | h := hbad
    · exact absurd hsize h
    · exact absurd (regOffset_aligned r) h
    · exact absurd h hhole
    · exact absurd hend (Nat.not_lt.2 h)

/-- Settles O20: the word a read answers depends on the block only, which the read leaves as it was. -/
theorem readsHaveNoSideEffect : Obligations.ReadsHaveNoSideEffect := by
  intro i off h s
  obtain ⟨word, hexec⟩ := exec_read h
  exact ⟨word s.block, hexec s, hexec _⟩

/-- Settles O11: a transaction at the bus address of an offset is taken as the one at the offset. -/
theorem stepRunsDecodedInstruction : Obligations.StepRunsDecodedInstruction := by
  intro s a rest i h
  refine ⟨fun hp => step_access_ok hp h, fun hp => ?busAddress⟩
  calc step s = step { s with pending := .busAccess (busAddress a.offset) a.dir a.size :: rest } := by rw [← hp]
    _ = step { s with pending := .access a :: rest } :=
      step_congr_fetch (fetch_busAccess_inside _ _ _ (windowOffset_blockBase_add _))
    _ = exec i { s with pending := rest } := step_access_ok rfl h

end Machine

end Sys2Proof
end

section
/-! PROOFS. The encodings (30_encoding.md): the bus table and the command table select at most one row, encoding undoes
decoding, which words are illegal, and what the lines of a script stand for. First the rules for the two tables, for the
fields of a command word and for a literal, then the statements. -/

namespace Sys2Proof

/-! ### One row of a table -/

/-- A search finds exactly the members it looks for when there is at most one of them. -/
theorem find?_eq_some_iff_of_unique {α : Type} {p : α → Bool} {l : List α} {a : α}
    (unique : ∀ x ∈ l, ∀ y ∈ l, p x = true → p y = true → x = y) :
    l.find? p = some a ↔ a ∈ l ∧ p a = true := by
  refine ⟨fun h => ⟨List.mem_of_find?_eq_some h, List.find?_some h⟩, fun ⟨ha, hp⟩ => ?_⟩
  obtain ⟨b, hb⟩ := Option.isSome_iff_exists.1 (List.find?_isSome.2 ⟨a, ha, hp⟩)
  rw [hb, unique b (List.mem_of_find?_eq_some hb) a ha (List.find?_some hb) hp]

/-! ### The bus table -/

theorem busTable_keys_nodup : (busTable.map BusRow.key).Nodup := by decide

/-- A key selects the row that has it, the only one (rules R42 and R43). -/
theorem decodeKey_eq_some_iff {k : BusKey} {w : Word} {i : Instr} :
    decodeKey k w = some i ↔ ∃ r ∈ busTable, r.key = k ∧ r.instr w = i := by
  have unique : ∀ r ∈ busTable, ∀ q ∈ busTable, (r.key == k) = true → (q.key == k) = true → r = q := by
    intro r hr q hq hrk hqk
    exact List.inj_on_of_nodup_map busTable_keys_nodup hr hq ((eq_of_beq hrk).trans (eq_of_beq hqk).symm)
  simp only [decodeKey, Option.map_eq_some_iff, find?_eq_some_iff_of_unique unique, beq_iff_eq, and_assoc]

theorem decodeKey_eq_none_iff {k : BusKey} {w : Word} : decodeKey k w = none ↔ ∀ r ∈ busTable, r.key ≠ k := by
  simp [decodeKey]

/-- The encoding whose bus key is `k`: bit 8 is its direction, bits 7:0 are its offset (rule R41). -/
def keyEncoding (k : BusKey) (w : Word) : Encoding :=
  if k.msb then .write (k.extractLsb' 0 8) w else .read (k.extractLsb' 0 8)

theorem keyEncoding_readKey (off : Offset) (w : Word) : keyEncoding (readKey off) w = .read off := by
  have dir : (readKey off).msb = false := BitVec.msb_append
  have low : (readKey off).extractLsb' 0 8 = off := BitVec.extractLsb'_append_eq_right
  simp [keyEncoding, dir, low]

theorem keyEncoding_writeKey (off : Offset) (w : Word) : keyEncoding (writeKey off) w = .write off w := by
  have dir : (writeKey off).msb = true := BitVec.msb_append
  have low : (writeKey off).extractLsb' 0 8 = off := BitVec.extractLsb'_append_eq_right
  simp [keyEncoding, dir, low]

/-- Each row of the bus table selects the instruction that its key encodes (rule R43). -/
theorem encode_busRow (w : Word) : ∀ r ∈ busTable, encode (r.instr w) = keyEncoding r.key w :=
  List.map_inj_left.1 rfl

/-- What a key selects encodes to that key: the other half of the round trip on the bus (rule R43). -/
theorem encode_of_decodeKey {k : BusKey} {w : Word} {i : Instr} (h : decodeKey k w = some i) :
    encode i = keyEncoding k w := by
  obtain ⟨r, hr, rfl, rfl⟩ := decodeKey_eq_some_iff.1 h
  exact encode_busRow w r hr

/-! ### The checks of bus decode -/

theorem decodeAccess_badSize {a : Access} (h : a.size ≠ 4) : decodeAccess a = .error (.badSize a.offset) := by
  simp [decodeAccess, h]

theorem decodeAccess_misaligned {a : Access} (hsize : a.size = 4) (h : a.offset.extractLsb' 0 2 ≠ 0#2) :
    decodeAccess a = .error (.misaligned a.offset) := by
  simp [decodeAccess, hsize, h]

/-- An access that passes the two checks is decoded by its key (rule R42). -/
theorem decodeAccess_aligned {a : Access} (hsize : a.size = 4) (halign : a.offset.extractLsb' 0 2 = 0#2) :
    decodeAccess a = decodeRow a.offset a.key a.wdata := by
  obtain ⟨dir, off, size⟩ := a
  cases dir <;> simp_all [decodeAccess, Access.key, Access.wdata]

/-! ### The fields of a command word -/

theorem append_eq_append_iff {m n : Nat} {a b : BitVec m} {c d : BitVec n} : a ++ c = b ++ d ↔ a = b ∧ c = d := by
  refine ⟨fun h => ?_, fun ⟨ha, hc⟩ => ha ▸ hc ▸ rfl⟩
  have low : c = d := by
    rw [← BitVec.extractLsb'_append_eq_right (a := a) (b := c), h, BitVec.extractLsb'_append_eq_right]
  subst low
  exact ⟨(BitVec.append_left_inj c).1 h, rfl⟩

/-- A command word is its fields (rule R44). -/
theorem word_eq_fields (w : Word) : w = w.extractLsb' 16 16 ++ imm8Field w ++ w.extractLsb' 0 8 := by
  ext j hj
  simp only [imm8Field]
  grind

/-- The mask of CRC_BYTE takes the field `IMM8` out of a word (rule R45). -/
theorem and_crcByteMask (w : Word) :
    w &&& 0xFFFF00FF#32 = w.extractLsb' 16 16 ++ 0#8 ++ w.extractLsb' 0 8 := by
  calc w &&& 0xFFFF00FF#32
      = (w.extractLsb' 16 16 ++ imm8Field w ++ w.extractLsb' 0 8) &&& (0xFFFF#16 ++ 0x00#8 ++ 0xFF#8) :=
        congrArg (· &&& 0xFFFF00FF#32) (word_eq_fields w)
    _ = (w.extractLsb' 16 16 &&& 0xFFFF#16) ++ (imm8Field w &&& 0x00#8) ++ (w.extractLsb' 0 8 &&& 0xFF#8) := by
        rw [BitVec.and_append, BitVec.and_append]
    _ = w.extractLsb' 16 16 ++ 0#8 ++ w.extractLsb' 0 8 := by
        rw [BitVec.and_zero, show 0xFFFF#16 = BitVec.allOnes 16 from rfl, show 0xFF#8 = BitVec.allOnes 8 from rfl,
          BitVec.and_allOnes, BitVec.and_allOnes]

/-- A word selects CRC_BYTE when its `OP` is 5 and its reserved field is 0 (rules R45 and R47). -/
theorem and_crcByteMask_eq_iff {w : Word} :
    w &&& 0xFFFF00FF#32 = 0x00000005#32 ↔ w.extractLsb' 16 16 = 0#16 ∧ w.extractLsb' 0 8 = 0x05#8 := by
  rw [and_crcByteMask, show 0x00000005#32 = 0#16 ++ 0#8 ++ 0x05#8 from rfl, append_eq_append_iff, append_eq_append_iff]
  simp

/-- The encoding of CRC_BYTE by its fields (rule R44). -/
theorem crcByteWord_eq_fields (b : Byte) : 0x00000005#32 ||| (b.setWidth 32 <<< 8) = 0#16 ++ b ++ 0x05#8 := by
  have shifted : b.setWidth 32 <<< 8 = 0#16 ++ b ++ 0x00#8 := by
    ext j hj
    grind
  calc 0x00000005#32 ||| (b.setWidth 32 <<< 8) = (0#16 ++ 0x00#8 ++ 0x05#8) ||| (0#16 ++ b ++ 0x00#8) :=
        congrArg (0x00000005#32 ||| ·) shifted
    _ = 0#16 ++ b ++ 0x05#8 := by
        rw [BitVec.or_append, BitVec.or_append, BitVec.or_zero, BitVec.or_zero, BitVec.zero_or]

/-- A word with `OP` 0 to 4 and nothing else set is one of the first five commands (rules R45 and R47). -/
theorem toNat_le_four_iff {w : Word} :
    w.toNat ≤ 4 ↔ (w.extractLsb' 0 8).toNat ≤ 4 ∧ w.extractLsb' 8 24 = 0#24 := by
  simp only [← BitVec.toNat_inj, BitVec.extractLsb'_toNat, Nat.shiftRight_eq_div_pow, BitVec.toNat_ofNat]
  omega

/-! ### The command table -/

theorem commandTable_patterns_nodup : (commandTable.map CommandRow.pattern).Nodup := by decide

/-- The row a word selects is the one whose pattern is the word without `IMM8`: a row's mask has at least the bits of
CRC_BYTE's (rule R45). -/
theorem pattern_of_selected {w : Word} {r : CommandRow} (hr : r ∈ commandTable) (h : w &&& r.mask = r.pattern) :
    r.pattern = w &&& 0xFFFF00FF#32 := by
  have rows : ∀ q ∈ commandTable, q.pattern &&& 0xFFFF00FF#32 = q.pattern ∧ q.mask &&& 0xFFFF00FF#32 = 0xFFFF00FF#32 := by
    decide
  obtain ⟨hpattern, hmask⟩ := rows r hr
  rw [← hpattern, ← h, BitVec.and_assoc, hmask]

/-- A word selects the row whose pattern its masked bits are, the only one (rule R45). -/
theorem decodeCommand_eq_some_iff {w : Word} {i : Instr} :
    decodeCommand w = some i ↔ ∃ r ∈ commandTable, w &&& r.mask = r.pattern ∧ r.instr w = i := by
  have unique : ∀ r ∈ commandTable, ∀ q ∈ commandTable,
      (w &&& r.mask == r.pattern) = true → (w &&& q.mask == q.pattern) = true → r = q := by
    intro r hr q hq hrw hqw
    refine List.inj_on_of_nodup_map commandTable_patterns_nodup hr hq ?_
    rw [pattern_of_selected hr (eq_of_beq hrw), pattern_of_selected hq (eq_of_beq hqw)]
  simp only [decodeCommand, Option.map_eq_some_iff, find?_eq_some_iff_of_unique unique, beq_iff_eq, and_assoc]

/-- A word is illegal when it is none of the five plain commands' words and CRC_BYTE's mask does not select it. -/
theorem decodeCommand_eq_none_iff {w : Word} :
    decodeCommand w = none ↔ 4 < w.toNat ∧ w &&& 0xFFFF00FF#32 ≠ 0x00000005#32 := by
  have ones : w &&& 0xFFFFFFFF#32 = w := BitVec.and_allOnes
  simp only [decodeCommand, Option.map_eq_none_iff, List.find?_eq_none, commandTable, List.forall_mem_cons, ones,
    beq_iff_eq, List.not_mem_nil, false_implies, implies_true, and_true, ← and_assoc]
  refine and_congr_left fun _ => ?_
  bv_omega

/-- NOP is one word alone (rule R47). -/
theorem decodeCommand_eq_nop_iff {w : Word} : decodeCommand w = some .nop ↔ w = 0x00000000#32 := by
  have ones : w &&& 0xFFFFFFFF#32 = w := BitVec.and_allOnes
  simp [decodeCommand_eq_some_iff, commandTable, ones]

namespace Machine

/-- A legal command word is the encoding of the command it selects: no bit of it is dropped (rules R45 and R47). -/
theorem encode_eq_command_of_decodeCommand {w : Word} {i : Instr} (h : decodeCommand w = some i) :
    encode i = .command w := by
  obtain ⟨rfl, hw⟩ | ⟨rfl, hw⟩ | ⟨rfl, hw⟩ | ⟨rfl, hw⟩ | ⟨rfl, hw⟩ | ⟨hw5, hw⟩ | hw := decodeCommand_cases w <;>
    cases hw.symm.trans h
  · rfl
  · rfl
  · rfl
  · rfl
  · rfl
  · obtain ⟨hrsv, hop⟩ := and_crcByteMask_eq_iff.1 hw5
    rw [encode, crcByteWord_eq_fields, ← hrsv, ← hop, ← word_eq_fields]

/-! ### The word of a literal -/

/-- A non-negative literal that 32 bits hold stands for its value in every register (rule R48). -/
theorem literalWord_dec_natCast (r : Reg) (n : Nat) : literalWord r (.dec n) = BitVec.ofNat 32 n := by
  simp [literalWord]

theorem literalWord_dec_neg_sample {r : Reg} {n : Int} (hn : n < 0) (hr : regIsSample r = true) :
    literalWord r (.dec n) = (BitVec.ofInt 16 n).setWidth 32 := by
  simp [literalWord, hn, hr]

theorem literalWord_dec_other {r : Reg} (hr : regIsSample r = false) (n : Int) :
    literalWord r (.dec n) = BitVec.ofInt 32 n := by
  simp [literalWord, hr]

/-- The two's complement of a negative number that `w` bits hold. -/
theorem toNat_ofInt_of_neg {w : Nat} {n : Int} (hneg : n < 0) (hlow : -2 ^ w ≤ n) :
    ((BitVec.ofInt w n).toNat : Int) = 2 ^ w + n := by
  have hmod : n % 2 ^ w = 2 ^ w + n := by
    rw [← Int.add_emod_left, Int.emod_eq_of_lt (by omega) (by omega)]
  rw [BitVec.toNat_ofInt, Nat.cast_pow, Nat.cast_ofNat, hmod]
  omega

/-! ### The statements -/

/-- Settles O1: on the bus because each row's instruction encodes to the row's key, and for a command word because its
mask leaves out no bit but the operand's. -/
theorem decodeInvertsEncode : Obligations.DecodeInvertsEncode := by
  refine ⟨fun i => ?decodes, fun e i h => ?encodes⟩
  case decodes =>
    cases i with
    | crcByte b => exact decodeCommand_crcByte b
    | _ => rfl
  case encodes =>
    cases e with
    | read off => exact (encode_of_decodeKey h).trans (keyEncoding_readKey off _)
    | write off w => exact (encode_of_decodeKey h).trans (keyEncoding_writeKey off w)
    | command w => exact encode_eq_command_of_decodeCommand h

/-- Settles O3: the checks come in the rule's order, and no two rows have one key. -/
theorem busDecodeChecksInOrder : Obligations.BusDecodeChecksInOrder := by
  refine ⟨fun a => ⟨decodeAccess_badSize, decodeAccess_misaligned, ?unmapped, ?row⟩, ?one⟩
  case unmapped =>
    intro hsize halign hno
    rw [decodeAccess_aligned hsize halign, decodeRow, decodeKey_eq_none_iff.2 hno]
  case row =>
    intro hsize halign r hr hkey
    exact decodeAccess_eq_ok_iff.2 ⟨hsize, halign, decodeKey_eq_some_iff.2 ⟨r, hr, hkey, rfl⟩⟩
  case one =>
    intro r hr
    rw [← List.countP_eq_length_filter]
    calc busTable.countP (fun q => q.key == r.key) = (busTable.map BusRow.key).count r.key :=
        (List.countP_map (p := (· == r.key))).symm
      _ = 1 := List.count_eq_one_of_mem busTable_keys_nodup (List.mem_map_of_mem hr)

/-- Settles O5: the row a word selects has the word without `IMM8` as its pattern, and no two rows have one pattern. -/
theorem commandWordSelectsItsRow : Obligations.CommandWordSelectsItsRow := by
  refine ⟨fun w i => ?row, fun w => ?one⟩
  case row => simp [decodeCommand_eq_some_iff, commandTable, imm8Field, @eq_comm _ _ i]
  case one =>
    rw [← List.countP_eq_length_filter]
    calc commandTable.countP (fun r => w &&& r.mask == r.pattern)
        ≤ commandTable.countP ((· == w &&& 0xFFFF00FF#32) ∘ CommandRow.pattern) :=
          List.countP_mono_left fun r hr h => beq_iff_eq.2 (pattern_of_selected hr (eq_of_beq h))
      _ = (commandTable.map CommandRow.pattern).count (w &&& 0xFFFF00FF#32) := List.countP_map.symm
      _ ≤ 1 := List.nodup_iff_count_le_one.1 commandTable_patterns_nodup _

/-- Settles O6: the legal words are those up to 4 and those CRC_BYTE's mask selects; then by the value of `OP`. -/
theorem illegalWordOnlySetsIllegalCmd : Obligations.IllegalWordOnlySetsIllegalCmd := by
  refine ⟨fun w => ?illegal, fun w => decodeCommand_eq_nop_iff, fun w s h => exec_wrCmd_of_illegal h s⟩
  case illegal =>
    rw [decodeCommand_eq_none_iff, ← Nat.not_le, toNat_le_four_iff, ne_eq, and_crcByteMask_eq_iff]
    rw [← BitVec.toNat_inj (x := w.extractLsb' 0 8), show (0x05#8).toNat = 5 from rfl]
    generalize (w.extractLsb' 0 8).toNat = op
    obtain hop | rfl | hop : op ≤ 4 ∨ op = 5 ∨ 6 ≤ op := by omega
    · simp [hop, show op ≠ 5 by omega, show ¬6 ≤ op by omega]
    · simp
    · simp [hop, show op ≠ 5 by omega, show ¬op ≤ 4 by omega]

/-- Settles O2: the search of the table ends at the row of the key. -/
theorem busKeysSelectTheirRows : Obligations.BusKeysSelectTheirRows := by
  intro w
  and_intros <;> rfl

/-- Settles O8, by evaluating the decoder at each word. -/
theorem tableWordsDecode : Obligations.TableWordsDecode := by
  and_intros <;> rfl

/-- Settles O9: each expansion is the definition's; CFG's word is compared for both values of its two bits. -/
theorem pseudoInstructionsExpand : Obligations.PseudoInstructionsExpand := by
  refine ⟨fun _ _ _ _ _ _ _ => rfl, fun _ => rfl, fun _ => rfl, rfl, rfl, fun crcEn sticky => ?cfg⟩
  case cfg => cases crcEn <;> cases sticky <;> rfl

/-- Settles O10: the lines are the definition's; a literal by its sign and the kind of its register. -/
theorem scriptLinesStandForTheirTransactions : Obligations.ScriptLinesStandForTheirTransactions := by
  refine ⟨fun _ _ => rfl, fun _ => rfl, ?commands, fun _ => rfl, ?natural, ?sample, ?other, ?char⟩
  case commands =>
    intro line i h
    simp only [List.mem_cons, Prod.mk.injEq, List.not_mem_nil, or_false] at h
    obtain ⟨rfl, rfl⟩ | ⟨rfl, rfl⟩ | ⟨rfl, rfl⟩ | ⟨rfl, rfl⟩ | ⟨rfl, rfl⟩ := h <;> exact ⟨_, rfl, rfl⟩
  case natural =>
    intro r n h
    rw [literalWord_dec_natCast]
    exact ⟨Nat.mod_eq_of_lt h, Nat.mod_eq_of_lt h⟩
  case sample =>
    intro r n hneg hlow hr
    rw [literalWord_dec_neg_sample hneg hr, BitVec.toNat_setWidth_of_le (by decide)]
    exact toNat_ofInt_of_neg hneg (by omega)
  case other =>
    intro r n hneg hlow hr
    rw [literalWord_dec_other hr]
    exact toNat_ofInt_of_neg hneg (by omega)
  case char =>
    intro r c h
    exact Nat.mod_eq_of_lt (h.trans (by decide))

end Machine

end Sys2Proof
end

section
/-! PROOFS. The frame encoder (40_frame_encoder.md): what BUILD, PROBE, FRAME_CLR and NOP make of the block, the frame the
host then sends, and one steady-state iteration. First the rules for the bytes BUILD writes, for the offered frame and for
a script of transactions, then the statements. -/

namespace Sys2Proof.Machine

/-! ### The bytes of a sample -/

/-- The receiver's arithmetic puts two bytes together as the bits of one word (rule R58). -/
theorem ofNat_mul_add_eq_append (hi lo : Byte) : BitVec.ofNat 16 (hi.toNat * 256 + lo.toNat) = hi ++ lo := by
  rw [← BitVec.toNat_inj, BitVec.toNat_append, ← Nat.shiftLeft_add_eq_or_of_lt lo.isLt, Nat.shiftLeft_eq]
  exact Nat.mod_eq_of_lt (by omega)

theorem highByte_append_lowByte (x : Sample) : highByte x ++ lowByte x = x :=
  (BitVec.extractLsb'_append_extractLsb'_eq_extractLsb' rfl).trans BitVec.extractLsb'_eq_self

theorem lowByte_sampleField (w : Word) : lowByte (sampleField w) = w.extractLsb' 0 8 :=
  BitVec.extractLsb'_extractLsb'_of_le (by decide)

theorem highByte_sampleField (w : Word) : highByte (sampleField w) = w.extractLsb' 8 8 :=
  BitVec.extractLsb'_extractLsb'_of_le (by decide)

theorem passByte_eq (pass : Bool) : passByte pass = if pass then 0x01#8 else 0x00#8 := by
  cases pass <;> rfl

/-! ### What BUILD writes -/

/-- Sample `i` goes to bytes `1+2i` and `2+2i`, low byte first (rule R52). -/
theorem Block.build_sample (b : Block) (i : Fin 6) :
    FrameBuffer.at b.build.frame (1 + 2 * i.val) = lowByte b.samples[i] ∧
      FrameBuffer.at b.build.frame (2 + 2 * i.val) = highByte b.samples[i] := by
  rw [b.build_frame_at_body (by omega), b.build_frame_at_body (by omega), buildBody_at b _ (by omega),
    buildBody_at b _ (by omega)]
  fin_cases i <;> exact ⟨rfl, rfl⟩

/-- The trailer is the CRC-32 of the bytes 0 to 22 that BUILD leaves (rule R54). -/
theorem Block.build_trailer_on {b : Block} (h : b.crcEn = true) {j : Nat} (hj : j < 4) :
    FrameBuffer.at b.build.frame (23 + j) = byteLane (crc32 (FrameBuffer.first b.build.frame 23)) j := by
  rw [Block.build_frame, appendTrailer_first, h, appendTrailer_at_on _ _ hj]

theorem Block.build_trailer_off {b : Block} (h : b.crcEn = false) {j : Nat} (hj : j < 4) :
    FrameBuffer.at b.build.frame (23 + j) = 0x00#8 := by
  rw [Block.build_frame, h, appendTrailer_at_off _ _ hj]

/-! ### The offered frame -/

@[simp] theorem FrameBuffer.length_first (f : FrameBuffer) (n : Nat) : (FrameBuffer.first f n).length = n := by
  simp [FrameBuffer.first]

theorem FrameBuffer.head?_first (f : FrameBuffer) {n : Nat} (h : n ≠ 0) :
    (FrameBuffer.first f n).head? = some (FrameBuffer.at f 0) := by
  simp [FrameBuffer.first, List.head?_range, h]

theorem builtLen_ne_zero (crcEn : Bool) : (builtLen crcEn).toNat ≠ 0 := by
  cases crcEn <;> decide

/-- With the trailer off and `STICKY_ST = 0` the offered frame is the steady-state layout of rule R50: the marker, the
samples, eight reserved bytes and the two outcomes. -/
theorem Block.build_offeredFrame_plain {b : Block} (hcrc : b.crcEn = false) (hsticky : b.stickySt = false) :
    b.build.offeredFrame =
      0x7E#8 :: (List.finRange 6).flatMap (fun i => [lowByte b.samples[i], highByte b.samples[i]]) ++
        List.replicate 8 0x00#8 ++ [passByte b.agPass, passByte b.magPass] := by
  have body (j : Nat) (hj : j < 23) := (b.build_frame_at_body hj).trans (buildBody_at b j hj)
  rw [Block.offeredFrame, Block.build_len, hcrc]
  refine (List.map_congr_left fun j hj => body j (List.mem_range.1 hj)).trans ?_
  rw [hsticky]
  rfl

/-! ### A script of transactions -/

/-- No instruction reads or changes what is still pending (rule R35). -/
theorem exec_withPending {i : Instr} {s t : State} (h : exec i s = .next t) (rest : List Input) :
    exec i { s with pending := rest } = .next { t with pending := rest } := by
  cases i with
  | wrCmd w =>
    obtain ⟨-, hw⟩ | ⟨-, hw⟩ | ⟨-, hw⟩ | ⟨-, hw⟩ | ⟨-, hw⟩ | ⟨-, hw⟩ | hw := decodeCommand_cases w <;>
      simp only [exec, execWrCmd, hw] at h ⊢ <;> cases h <;> rfl
  | _ => cases h; rfl

/-- A run of a script performs its first instruction and runs the others from there. -/
theorem run_issue_cons (n : Nat) {i : Instr} {s t : State} (is : List Instr) (h : exec i s = .next t) :
    core.run (n + 1) (s.issue (i :: is)) = core.run n (t.issue is) :=
  run_succ n ((step_ofInstr rfl).trans (exec_withPending h _))

/-- The block after the host has written the six samples and SELFTEST, in the order of rule R105. -/
def Block.writeInputs (b : Block) (ax ay az gx gy gz st : Word) : Block :=
  ((((((b.setSample 0 ax).setSample 1 ay).setSample 2 az).setSample 3 gx).setSample 4 gy).setSample 5 gz).setSelftest st

theorem Block.writeInputs_samples (b : Block) (ax ay az gx gy gz st : Word) :
    (b.writeInputs ax ay az gx gy gz st).samples =
      #v[sampleField ax, sampleField ay, sampleField az, sampleField gx, sampleField gy, sampleField gz] := by
  ext i hi
  simp only [Block.writeInputs, Block.setSelftest_samples, Block.setSample_samples, Vector.getElem_set]
  interval_cases i <;> rfl

/-- Writing the inputs leaves both mode bits alone (rules R83 and R85). -/
theorem Block.writeInputs_modes (b : Block) (ax ay az gx gy gz st : Word) :
    (b.writeInputs ax ay az gx gy gz st).crcEn = b.crcEn ∧ (b.writeInputs ax ay az gx gy gz st).stickySt = b.stickySt := by
  simp [Block.writeInputs]

theorem Block.writeInputs_outcomes (b : Block) (ax ay az gx gy gz st : Word) :
    (b.writeInputs ax ay az gx gy gz st).agPass = bit0 st ∧ (b.writeInputs ax ay az gx gy gz st).magPass = bit1 st :=
  ⟨rfl, rfl⟩

/-- The host's script of a steady-state iteration is the writes of the inputs and then BUILD (rule R105). -/
theorem run_steadyState (s : State) (ax ay az gx gy gz st : Word) :
    ∃ t, core.run 8 (s.issue [.wrAccX ax, .wrAccY ay, .wrAccZ az, .wrGyrX gx, .wrGyrY gy, .wrGyrZ gz, .wrSelftest st,
        .build]) = .next t ∧ t.block = (s.block.writeInputs ax ay az gx gy gz st).build := by
  rw [run_issue_cons 7 _ rfl, run_issue_cons 6 _ rfl, run_issue_cons 5 _ rfl, run_issue_cons 4 _ rfl,
    run_issue_cons 3 _ rfl, run_issue_cons 2 _ rfl, run_issue_cons 1 _ rfl, run_issue_cons 0 _ rfl]
  exact ⟨_, rfl, rfl⟩

/-! ### The statements -/

/-- Settles O44, byte by byte: the marker, the samples, the reserved bytes, the self-test bytes in either mode, and the
trailer on and off. -/
theorem buildEncodesTheInputs : Obligations.BuildEncodesTheInputs := by
  refine ⟨rfl, fun s => ⟨_, rfl, rfl, rfl, rfl, s.block.build_marker, s.block.build_sample,
    fun j => s.block.build_reserved, fun hsticky => ?fresh, fun hsticky => ?sticky, fun hcrc => ?on, fun hcrc => ?off⟩⟩
  case fresh =>
    simp only [State.answerOkay_block, Block.build_agByte, Block.build_magByte, hsticky, selftestByte_not_sticky,
      passByte_eq, and_self]
  case sticky =>
    rw [State.answerOkay_block, Block.build_agByte, Block.build_magByte, hsticky]
    exact ⟨rfl, rfl⟩
  case on => exact ⟨congrArg builtLen hcrc, fun j => Block.build_trailer_on hcrc⟩
  case off => exact ⟨congrArg builtLen hcrc, fun j => Block.build_trailer_off hcrc⟩

/-- Settles O45: a write of byte 0 leaves the other bytes. -/
theorem probeMakesTheProbeFrame : Obligations.ProbeMakesTheProbeFrame := by
  refine ⟨rfl, fun s => ⟨_, rfl, rfl, rfl, rfl, FrameBuffer.at_put_same _ _ _ (by decide), fun j h1 _ => ?kept⟩⟩
  case kept => exact FrameBuffer.at_put_other _ _ _ _ (by omega)

/-- Settles O48: the two bytes of a sample, put together, are the sample, so they are the same signed number. -/
theorem decodingAFrameRecoversTheSamples : Obligations.DecodingAFrameRecoversTheSamples := by
  refine fun s => ⟨_, rfl, fun i => ?_⟩
  obtain ⟨hlow, hhigh⟩ := s.block.build_sample i
  rw [State.answerOkay_block, hlow, hhigh, ofNat_mul_add_eq_append, highByte_append_lowByte]

/-- Settles O49: the offered frame is the first `LEN` bytes, and each of the three commands sets `LEN` itself. -/
theorem offeredFrameLengthAndMarker : Obligations.OfferedFrameLengthAndMarker := by
  refine fun s => ⟨⟨_, rfl, rfl, FrameBuffer.length_first _ _, ?marker⟩, ⟨_, rfl, ?probe⟩, ⟨_, rfl, rfl⟩⟩
  case marker =>
    exact (FrameBuffer.head?_first _ (builtLen_ne_zero _)).trans (congrArg some s.block.build_marker)
  case probe =>
    exact congrArg (· :: []) (FrameBuffer.at_put_same s.block.frame 0 Config.probeByte (by decide))

/-- Settles O56: the script leaves the block BUILD makes of the inputs written, and neither mode bit has changed. -/
theorem steadyStateIterationFrame : Obligations.SteadyStateIterationFrame := by
  intro s ax ay az gx gy gz st hcrc hsticky
  obtain ⟨t, hrun, hblock⟩ := run_steadyState s ax ay az gx gy gz st
  obtain ⟨hcrcEn, hstickySt⟩ := s.block.writeInputs_modes ax ay az gx gy gz st
  obtain ⟨hag, hmag⟩ := s.block.writeInputs_outcomes ax ay az gx gy gz st
  refine ⟨t, hrun, ?_⟩
  rw [hblock, Block.build_offeredFrame_plain (hcrcEn.trans hcrc) (hstickySt.trans hsticky), Block.writeInputs_samples,
    hag, hmag, passByte_eq, passByte_eq]
  simp only [← lowByte_sampleField, ← highByte_sampleField]
  rfl

/-- Settles O46: each byte of the cleared buffer is the one replicated. -/
theorem frameClrClearsTheBuffer : Obligations.FrameClrClearsTheBuffer :=
  ⟨rfl, fun _ => ⟨_, rfl, rfl, rfl, rfl, fun j => Vector.getElem_replicate j.isLt⟩⟩

/-- Settles O47: NOP is one word alone; a word with OP 0 and another bit set exceeds 4 and has not the OP of CRC_BYTE. -/
theorem nopChangesNothing : Obligations.NopChangesNothing := by
  refine ⟨rfl, fun _ => rfl, fun w hop hrest => decodeCommand_eq_none_iff.2 ⟨?notPlain, fun h5 => ?notCrcByte⟩⟩
  case notPlain => exact Nat.lt_of_not_le fun hle => hrest (toNat_le_four_iff.1 hle).2
  case notCrcByte => exact absurd (hop.symm.trans (and_crcByteMask_eq_iff.1 h5).2) (by decide)

end Sys2Proof.Machine
end

section
/-! PROOFS. The CRC-32 function and the streaming engine (41_crc32.md): the table form of the byte step, a stream fed in
any mix of transactions, and the residue that tells a receiver the CRC is right. First the rules for the byte step, for
`le32`, for a script that feeds bytes and for a frame with trailer, then the statements. -/

namespace Sys2Proof.Machine

/-! ### The byte step by bits -/

/-- The byte step is linear in the register and the byte together. -/
theorem crcStep8_xor (s t : Word) (a b : Byte) :
    crcStep8 (s ^^^ t) (a ^^^ b) = crcStep8 s a ^^^ crcStep8 t b := by
  have taken : s ^^^ t ^^^ (a ^^^ b).setWidth 32 = (s ^^^ a.setWidth 32) ^^^ (t ^^^ b.setWidth 32) := by
    rw [BitVec.setWidth_xor]
    ac_rfl
  simp only [crcStep8, taken, crcShift_xor]

theorem crcShift_ushiftRight {s : Word} {i : Nat} (h : s.getLsbD i = false) : crcShift (s >>> i) = s >>> (i + 1) := by
  rw [crcShift_even _ (by simpa using h), ← BitVec.shiftRight_add]

/-- Eight zero bits shift out of the register without the polynomial. -/
theorem crcStep8_zero_of_low_zero {s : Word} (h : ∀ i < 8, s.getLsbD i = false) : crcStep8 s 0#8 = s >>> 8 := by
  have shift (i : Nat) (hi : i < 8) : crcShift (s >>> i) = s >>> (i + 1) := crcShift_ushiftRight (h i hi)
  have start : s ^^^ (0#8).setWidth 32 = s >>> 0 := by simp
  simp only [crcStep8, start, shift, Nat.reduceAdd, Nat.reduceLT]

/-- A word is its upper 24 bits in place and its low byte. -/
theorem word_eq_high_xor_low (s : Word) : s = (s >>> 8 <<< 8) ^^^ (byteLane s 0).setWidth 32 := by
  ext j hj
  simp only [byteLane]
  grind

/-- The low byte alone goes through the table; the rest of the register is shifted (rule R62). -/
theorem crcStep8_eq_table (s : Word) (b : Byte) : crcStep8 s b = (s >>> 8) ^^^ crcTable (byteLane s 0 ^^^ b) := by
  have high : crcStep8 (s >>> 8 <<< 8) 0#8 = s >>> 8 := by
    rw [crcStep8_zero_of_low_zero (by simp +contextual)]
    ext j hj
    grind
  have low : crcStep8 ((byteLane s 0).setWidth 32) b = crcTable (byteLane s 0 ^^^ b) := by
    simp [crcTable, crcStep8]
  calc crcStep8 s b = crcStep8 ((s >>> 8 <<< 8) ^^^ (byteLane s 0).setWidth 32) (0#8 ^^^ b) := by
        rw [← word_eq_high_xor_low, BitVec.zero_xor]
    _ = (s >>> 8) ^^^ crcTable (byteLane s 0 ^^^ b) := by rw [crcStep8_xor, high, low]

theorem byteLane_zero_xor_setWidth (s : Word) (b : Byte) :
    byteLane (s ^^^ b.setWidth 32) 0 = byteLane s 0 ^^^ b := by
  ext j hj
  simp only [byteLane]
  grind

theorem crcStep8ByTable_eq (s : Word) (b : Byte) : crcStep8ByTable s b = crcStep8 s b := by
  rw [crcStep8_eq_table, ← byteLane_zero_xor_setWidth]
  rfl

/-! ### The bytes of the register itself -/

/-- Feeding the register its own low byte shifts it out (rule R62 at the table's entry 0). -/
theorem crcStep8_byteLane_zero (s : Word) : crcStep8 s (byteLane s 0) = s >>> 8 := by
  have entry : crcTable 0#8 = 0#32 := rfl
  rw [crcStep8_eq_table, BitVec.xor_self, entry, BitVec.xor_zero]

theorem byteLane_succ (s : Word) (i : Nat) : byteLane s (i + 1) = byteLane (s >>> 8) i := by
  ext j hj
  simp only [byteLane]
  grind

/-- A register fed its own four bytes ends at 0. -/
theorem crcFeed_le32_self (s : Word) : crcFeed s (le32 s) = 0#32 := by
  simp only [le32, byteLane_succ, crcFeed_cons, crcFeed_nil, crcStep8_byteLane_zero]
  rw [← BitVec.shiftRight_add, ← BitVec.shiftRight_add, ← BitVec.shiftRight_add]
  exact BitVec.ushiftRight_eq_zero (by decide)

theorem byteLane_xor (v w : Word) (i : Nat) : byteLane (v ^^^ w) i = byteLane v i ^^^ byteLane w i :=
  BitVec.extractLsb'_xor

theorem crcFeed_le32_xor (s t v w : Word) :
    crcFeed (s ^^^ t) (le32 (v ^^^ w)) = crcFeed s (le32 v) ^^^ crcFeed t (le32 w) := by
  simp only [le32, crcFeed_cons, crcFeed_nil, byteLane_xor, crcStep8_xor]

/-- Whatever the register, its finished value fed to it leaves the residue (rule R72). -/
theorem crcFeed_le32_finished (s : Word) : crcFeed s (le32 (s ^^^ Config.crcXorOut)) = 0xDEBB20E3#32 := by
  have ones : crcFeed 0#32 (le32 Config.crcXorOut) = 0xDEBB20E3#32 := by
    simp [crcStep8, crcShift, le32, byteLane]
  calc crcFeed s (le32 (s ^^^ Config.crcXorOut)) = crcFeed (s ^^^ 0#32) (le32 (s ^^^ Config.crcXorOut)) := by
        rw [BitVec.xor_zero]
    _ = 0xDEBB20E3#32 := by rw [crcFeed_le32_xor, crcFeed_le32_self, ones, BitVec.zero_xor]

theorem crcFeed_append_crc32 (m : List Byte) :
    crcFeed Config.crcInit (m ++ le32 (crc32 m)) = 0xDEBB20E3#32 := by
  rw [crcFeed_append]
  exact crcFeed_le32_finished _

/-! ### Feeding the streaming engine -/

/-- A write to CMD feeds what its command feeds; an illegal word feeds nothing (rules R71 and R77). -/
theorem feedOf_wrCmd (w : Word) : feedOf (.wrCmd w) = (decodeCommand w).elim (some []) feedOf := by
  delta feedOf
  obtain ⟨-, hw⟩ | ⟨-, hw⟩ | ⟨-, hw⟩ | ⟨-, hw⟩ | ⟨-, hw⟩ | ⟨-, hw⟩ | hw := decodeCommand_cases w <;>
    simp only [hw] <;> rfl

theorem exec_feed_of_ne_wrCmd {i : Instr} {bytes : List Byte} (hne : ∀ w, i ≠ .wrCmd w)
    (h : feedOf i = some bytes) (s : State) :
    ∃ t, exec i s = .next t ∧ t.block.crcState = crcFeed s.block.crcState bytes := by
  cases i with
  | wrCmd w => exact absurd rfl (hne w)
  | crcInit | wrCrcState _ => cases h
  | _ => cases h; exact ⟨_, rfl, rfl⟩

/-- An instruction feeds exactly the bytes `feedOf` says it feeds (rule R71). -/
theorem exec_feed {i : Instr} {bytes : List Byte} (h : feedOf i = some bytes) (s : State) :
    ∃ t, exec i s = .next t ∧ t.block.crcState = crcFeed s.block.crcState bytes := by
  by_cases hi : ∃ w, i = .wrCmd w
  · obtain ⟨w, rfl⟩ := hi
    cases hw : decodeCommand w with
    | none =>
      rw [feedOf_wrCmd, hw] at h
      cases h
      exact ⟨_, exec_wrCmd_of_illegal hw s, rfl⟩
    | some c =>
      have hne : ∀ v, c ≠ .wrCmd v := by
        rintro v rfl
        obtain ⟨e, he⟩ := encode_of_decodeCommand hw
        cases he
      rw [feedOf_wrCmd, hw] at h
      rw [exec_wrCmd_of_decodeCommand hw]
      exact exec_feed_of_ne_wrCmd hne h s
  · exact exec_feed_of_ne_wrCmd (not_exists.1 hi) h s

/-- A script of feeding and neutral instructions, and then whatever follows it, feeds its bytes in order. -/
theorem run_issue_feed {is : List Instr} {fed : List (List Byte)} (h : is.map feedOf = fed.map some) (s : State) :
    ∃ t : State, t.block.crcState = crcFeed s.block.crcState fed.flatten ∧
      ∀ n rest, core.run (n + is.length) (s.issue (is ++ rest)) = core.run n (t.issue rest) := by
  induction is generalizing s fed with
  | nil =>
    obtain rfl : fed = [] := by simpa using h.symm
    exact ⟨s, rfl, fun _ _ => rfl⟩
  | cons i is ih =>
    cases fed with
    | nil => cases h
    | cons bytes fed =>
      obtain ⟨hi, his⟩ := List.cons.inj h
      obtain ⟨t, hexec, ht⟩ := exec_feed hi s
      obtain ⟨u, hu, hrun⟩ := ih his t
      refine ⟨u, ?_, fun n rest => ?_⟩
      · rw [hu, ht, List.flatten_cons, crcFeed_append]
      · exact (run_issue_cons (n + is.length) (is ++ rest) hexec).trans (hrun n rest)

/-- RD CRC_RESULT answers the finished register (rule R70). -/
theorem exec_rdCrcResult {s : State} {r : Word} (h : s.block.crcState = r) :
    exec .rdCrcResult s = .next (s.answerData (r ^^^ Config.crcXorOut)) :=
  h ▸ rfl

/-- A stream that starts at 0xFFFFFFFF reads as the CRC-32 of its bytes (rule R71). -/
theorem run_stream {is : List Instr} {fed : List (List Byte)} (h : is.map feedOf = fed.map some) {s : State}
    (hs : s.block.crcState = Config.crcInit) :
    ∃ t : State, core.run (is.length + 1) (s.issue (is ++ [Instr.rdCrcResult])) = .next t ∧
      t.response = some (.data (crc32 fed.flatten)) := by
  obtain ⟨t, ht, hrun⟩ := run_issue_feed h s
  rw [hs] at ht
  rw [Nat.add_comm, hrun, run_issue_cons 0 [] (exec_rdCrcResult ht)]
  exact ⟨_, rfl, rfl⟩

/-- CRC_BYTE commands feed a message byte by byte (rule R65). -/
theorem run_crcByte (m : List Byte) (s : State) :
    ∃ t : State, core.run m.length (s.issue (m.map Instr.crcByte)) = .next t ∧
      t.block.crcState = crcFeed s.block.crcState m := by
  have fed : (m.map Instr.crcByte).map feedOf = (m.map fun b => [b]).map some := by
    rw [List.map_map, List.map_map]; rfl
  obtain ⟨t, ht, hrun⟩ := run_issue_feed fed s
  rw [← List.flatMap_def, List.flatMap_singleton'] at ht
  have run : core.run m.length (s.issue (m.map Instr.crcByte)) = core.run 0 (t.issue []) := by simpa using hrun 0 []
  exact ⟨t.issue [], run, ht⟩

/-! ### The frame with trailer -/

theorem FrameBuffer.first_add (f : FrameBuffer) (m n : Nat) :
    FrameBuffer.first f (m + n) = FrameBuffer.first f m ++ (List.range n).map fun j => FrameBuffer.at f (m + j) := by
  simp [FrameBuffer.first, List.range_add]

/-- The trailer as the receiver takes it: `le32` of the CRC-32 of the bytes before it (rule R54). -/
theorem Block.build_trailer_le32 {b : Block} (h : b.crcEn = true) :
    (List.range 4).map (fun j => FrameBuffer.at b.build.frame (23 + j)) =
      le32 (crc32 (FrameBuffer.first b.build.frame 23)) :=
  List.map_congr_left fun _ hj => Block.build_trailer_on h (List.mem_range.1 hj)

theorem Block.build_offeredFrame_trailer {b : Block} (h : b.crcEn = true) :
    b.build.offeredFrame =
      FrameBuffer.first b.build.frame 23 ++ le32 (crc32 (FrameBuffer.first b.build.frame 23)) := by
  rw [← Block.build_trailer_le32 h, ← FrameBuffer.first_add, Block.offeredFrame, Block.build_len, h]
  rfl

/-! ### The statements -/

/-- Settles O36: the upper 24 bits of the register shift out of their zero low byte, and by linearity the low byte goes
through the table. -/
theorem crcTableFormAgrees : Obligations.CrcTableFormAgrees :=
  ⟨fun _ => rfl, fun s b => (crcStep8ByTable_eq s b).symm, rfl, rfl, rfl, rfl⟩

/-- Settles O41: the run feeds the bytes in order to a register that CRC_INIT, or reset, has set to 0xFFFFFFFF. -/
theorem streamingEqualsOneShot : Obligations.StreamingEqualsOneShot := by
  refine fun s is fed h => ⟨?init, fun hreset => run_stream h (congrArg Block.crcState hreset)⟩
  case init =>
    rw [run_issue_cons (is.length + 1) _ rfl]
    exact run_stream h rfl

/-- Settles O42: feeding `le32` of its own finished value to any register leaves the residue, for a message as for the
bytes 0 to 22 of a frame. -/
theorem receiverCheckResidue : Obligations.ReceiverCheckResidue := by
  refine ⟨fun s m => ?message, fun s hcrc => ⟨_, rfl, congrArg builtLen hcrc, ?frame, ?trailer⟩⟩
  case message =>
    have len : (m ++ le32 (crc32 m)).length = m.length + 4 := List.length_append
    obtain ⟨t, hrun, ht⟩ := run_crcByte (m ++ le32 (crc32 m)) (s.answerOkay (s.block.setCrcState Config.crcInit))
    have residue : t.block.crcState = 0xDEBB20E3#32 := ht.trans (crcFeed_append_crc32 m)
    rw [run_issue_cons (m.length + 4) _ rfl, ← len]
    exact ⟨t, _, hrun, residue, exec_rdCrcResult residue, rfl⟩
  case frame =>
    rw [State.answerOkay_block, Block.build_offeredFrame_trailer hcrc]
    exact crcFeed_append_crc32 _
  case trailer => exact (Block.build_trailer_le32 hcrc).symm

/-- Settles O28: both reads answer a word of the register and leave the block alone. -/
theorem readCrcStateAndResult : Obligations.ReadCrcStateAndResult :=
  ⟨fun _ => ⟨rfl, rfl⟩, fun _ => ⟨rfl, rfl⟩⟩

/-- Settles O35: the model writes the eight bit steps out. -/
theorem crcStepIsBitSerial : Obligations.CrcStepIsBitSerial :=
  fun _ _ => rfl

/-- Settles O37: the check value by evaluating the fold, and BUILD's trailer by what BUILD writes there. -/
theorem crc32AndItsCheckValue : Obligations.Crc32AndItsCheckValue :=
  ⟨fun _ => rfl, rfl, by simp [crc32, crcStep8, crcShift],
    fun _ hcrc => ⟨_, rfl, fun _ => Block.build_trailer_on hcrc⟩⟩

/-- Settles O38: each sets the one register. -/
theorem crcInitAndWriteCrcState : Obligations.CrcInitAndWriteCrcState :=
  ⟨rfl, fun _ => rfl, fun _ => ⟨rfl, fun _ => rfl⟩⟩

/-- Settles O39: a word with OP 5 exceeds 4, and CRC_BYTE's mask selects it only if its reserved field is 0. -/
theorem crcByteAndData8FeedOneByte : Obligations.CrcByteAndData8FeedOneByte := by
  refine ⟨decodeCommand_crcByte, fun w hop hrsv => decodeCommand_eq_none_iff.2 ⟨?notPlain, fun h5 => ?notCrcByte⟩,
    fun _ => rfl, fun _ => ⟨fun _ => rfl, fun _ => rfl⟩⟩
  case notPlain =>
    refine Nat.lt_of_not_le fun hle => ?_
    have hop4 := (toNat_le_four_iff.1 hle).1
    rw [hop] at hop4
    exact absurd hop4 (by decide)
  case notCrcByte => exact hrsv (and_crcByteMask_eq_iff.1 h5).1

/-- Settles O40: the bytes are fed as `le32` lists them, lane 0 first. -/
theorem crcData32FeedsFourBytes : Obligations.CrcData32FeedsFourBytes :=
  fun _ _ => ⟨rfl, rfl⟩

end Sys2Proof.Machine
end

section
/-! PROOFS. Register access (42_register_access.md): what each register reads as, what a write of it changes, and the command
a write to CMD performs. First the rules for the words and fields of the registers, then the statements. -/

namespace Sys2Proof.Machine

/-! ### Commands -/

/-- A command updates the block, leaves the queue alone and answers OKAY (rules R35 and R77). -/
theorem exec_command {i : Instr} {c : Word} (h : encode i = .command c) :
    ∃ f : Block → Block, ∀ s, exec i s = .next (s.answerOkay (f s.block)) := by
  cases i with
  | nop => exact ⟨id, fun _ => rfl⟩
  | build => exact ⟨Block.build, fun _ => rfl⟩
  | probe => exact ⟨Block.probe, fun _ => rfl⟩
  | frameClr => exact ⟨Block.clearFrame, fun _ => rfl⟩
  | crcInit => exact ⟨(·.setCrcState Config.crcInit), fun _ => rfl⟩
  | crcByte b => exact ⟨(·.feedCrc [b]), fun _ => rfl⟩
  | _ => cases h

/-- A write to CMD answers OKAY, whatever its word selects (rule R77). -/
theorem exec_wrCmd_answers_okay (w : Word) (s : State) : ∃ b, exec (.wrCmd w) s = .next (s.answerOkay b) := by
  cases hw : decodeCommand w with
  | none => exact ⟨_, exec_wrCmd_of_illegal hw s⟩
  | some i =>
    obtain ⟨c, hc⟩ := encode_of_decodeCommand hw
    obtain ⟨f, hexec⟩ := exec_command hc
    exact ⟨f s.block, (exec_wrCmd_of_decodeCommand hw s).trans (hexec s)⟩

/-! ### The words and fields of the registers -/

/-- Two flags as a register word: each in its own bit, and 0 above (rules R73, R80 and R84). -/
theorem flagWord_bits (hi lo : Bool) :
    (flagWord hi lo).getLsbD 0 = lo ∧ (flagWord hi lo).getLsbD 1 = hi ∧ (flagWord hi lo).extractLsb' 2 30 = 0#30 := by
  cases hi <;> cases lo <;> decide

/-- WR ERR keeps a flag exactly where its bit is written as 0 (rule R81). -/
theorem Block.clearErrors_eq (b : Block) (w : Word) :
    b.clearErrors w = { b with
      illegalCmd := b.illegalCmd && !w.getLsbD 0
      roWrite := b.roWrite && !w.getLsbD 1 } := by
  simp only [Block.clearErrors, Bool.if_false_left, Bool.decide_eq_true, Bool.and_comm]
  rfl

theorem sampleWord_toNat (b : Block) (k : Fin 6) : (sampleWord b k).toNat = b.samples[k].toNat :=
  BitVec.toNat_setWidth_of_le (by decide)

theorem sampleField_toNat (w : Word) : (sampleField w).toNat = w.toNat % 65536 := by
  simp [sampleField]

theorem Block.setSample_same (b : Block) (k : Fin 6) (w : Word) : (b.setSample k w).samples[k] = sampleField w :=
  Vector.getElem_set_self k.isLt

theorem Block.setSample_other (b : Block) {j k : Fin 6} (h : j ≠ k) (w : Word) :
    (b.setSample k w).samples[j] = b.samples[j] :=
  Vector.getElem_set_ne k.isLt j.isLt fun e => h (Fin.ext e.symm)

/-! ### The statements -/

/-- Settles O7: a word that selects a command has the command's own meaning, any other is an IllegalCommand, and each
answers OKAY. -/
theorem writeCmdPerformsTheCommand : Obligations.WriteCmdPerformsTheCommand := by
  refine fun w s => ⟨rfl, fun i h => exec_wrCmd_of_decodeCommand h s, fun h => exec_wrCmd_of_illegal h s, ?answer⟩
  case answer =>
    obtain ⟨b, hexec⟩ := exec_wrCmd_answers_okay w s
    exact ⟨s.answerOkay b, hexec, rfl, rfl⟩

/-- Settles O21: CTRL reads as its two flags. -/
theorem readCtrl : Obligations.ReadCtrl :=
  ⟨fun _ => rfl, fun _ => ⟨_, rfl, flagWord_bits _ _⟩⟩

/-- Settles O22: zero-extension keeps the number. -/
theorem readFrameLen : Obligations.ReadFrameLen :=
  ⟨fun _ => rfl, fun _ => ⟨_, rfl, BitVec.toNat_setWidth_of_le (by decide)⟩⟩

/-- Settles O24: each of the three reads answers `writeOnlyWord`. -/
theorem readWriteOnlyRegister : Obligations.ReadWriteOnlyRegister := by
  intro s key i hrow
  simp only [List.mem_cons, Prod.mk.injEq, List.not_mem_nil, or_false] at hrow
  obtain ⟨rfl, rfl⟩ | ⟨rfl, rfl⟩ | ⟨rfl, rfl⟩ := hrow <;> exact ⟨fun _ => rfl, rfl⟩

/-- Settles O25: ERR reads as its two flags, which the read leaves alone. -/
theorem readErr : Obligations.ReadErr :=
  ⟨fun _ => rfl, fun _ => ⟨_, rfl, flagWord_bits _ _⟩⟩

/-- Settles O26: each of the six reads answers `sampleWord` of its own sample. -/
theorem readSample : Obligations.ReadSample := by
  intro s k key i hrow
  simp only [List.mem_cons, Prod.mk.injEq, List.not_mem_nil, or_false] at hrow
  obtain ⟨rfl, rfl, rfl⟩ | ⟨rfl, rfl, rfl⟩ | ⟨rfl, rfl, rfl⟩ | ⟨rfl, rfl, rfl⟩ | ⟨rfl, rfl, rfl⟩ | ⟨rfl, rfl, rfl⟩ :=
    hrow <;> exact ⟨fun _ => rfl, _, rfl, sampleWord_toNat _ _⟩

/-- Settles O27: SELFTEST reads as its two flags. -/
theorem readSelftest : Obligations.ReadSelftest :=
  ⟨fun _ => rfl, fun _ => ⟨_, rfl, flagWord_bits _ _⟩⟩

/-- Settles O29: the write is `Block.setCtrl`, which sets the two flags only. -/
theorem writeCtrl : Obligations.WriteCtrl :=
  fun _ _ => ⟨rfl, rfl⟩

/-- Settles O30: each of the nine writes takes the exception ReadOnlyWrite. -/
theorem writeReadOnlyRegister : Obligations.WriteReadOnlyRegister := by
  intro s w key i hrow
  simp only [List.mem_cons, Prod.mk.injEq, List.not_mem_nil, or_false] at hrow
  obtain ⟨rfl, rfl⟩ | ⟨rfl, rfl⟩ | ⟨rfl, rfl⟩ | ⟨rfl, rfl⟩ | ⟨rfl, rfl⟩ | ⟨rfl, rfl⟩ | ⟨rfl, rfl⟩ | ⟨rfl, rfl⟩ |
    ⟨rfl, rfl⟩ := hrow <;> exact ⟨rfl, rfl⟩

/-- Settles O31: the write is `Block.clearErrors`, which keeps each flag whose bit is written as 0. -/
theorem writeErr : Obligations.WriteErr :=
  fun s w => ⟨rfl, congrArg (fun b => Host.Outcome.next (s.answerOkay b)) (s.block.clearErrors_eq w)⟩

/-- Settles O32: each of the six writes is `Block.setSample` of its own sample. -/
theorem writeSample : Obligations.WriteSample := by
  intro s w k key i hrow
  have stored := (congrArg BitVec.toNat (s.block.setSample_same k w)).trans (sampleField_toNat w)
  have others (j : Fin 6) (hj : j ≠ k) := s.block.setSample_other hj w
  simp only [List.mem_cons, Prod.mk.injEq, List.not_mem_nil, or_false] at hrow
  obtain ⟨rfl, rfl, rfl⟩ | ⟨rfl, rfl, rfl⟩ | ⟨rfl, rfl, rfl⟩ | ⟨rfl, rfl, rfl⟩ | ⟨rfl, rfl, rfl⟩ | ⟨rfl, rfl, rfl⟩ :=
    hrow <;> exact ⟨rfl, _, rfl, rfl, rfl, rfl, stored, others⟩

/-- Settles O33: the write is `Block.setSelftest`, which sets the two outcomes only. -/
theorem writeSelftest : Obligations.WriteSelftest :=
  fun _ _ => ⟨rfl, rfl⟩

end Sys2Proof.Machine
end

section
/-! PROOFS. Exceptions (60_exceptions.md): which inputs stop the machine. A transaction of the host never does, and what the
model refuses it refuses by name. First the step at each kind of input, then the statements. -/

namespace Sys2Proof.Machine

/-! ### The step at each kind of input -/

theorem step_otherMaster {s : State} {a : Access} {rest : List Input} (hp : s.pending = .otherMaster a :: rest) :
    step s = .refused .secondMaster :=
  step_of_fetch_refuse (by rw [fetch, hp])

theorem step_resetInside {s : State} {a : Access} {rest : List Input} (hp : s.pending = .resetInside a :: rest) :
    step s = .refused .resetInsideAccess :=
  step_of_fetch_refuse (by rw [fetch, hp])

theorem step_reset {s : State} {rest : List Input} (hp : s.pending = .reset :: rest) :
    step s = .next ({ s with pending := rest } : State).applyReset :=
  step_of_fetch_done (by rw [fetch, hp])

/-- An access of the host answers a next state, whether it decodes or is a BusError (rules R87 and R88). -/
theorem step_access_next {s : State} {a : Access} {rest : List Input} (hp : s.pending = .access a :: rest) :
    ∃ t, step s = .next t := by
  cases ha : decodeAccess a with
  | ok i => exact step_access_ok hp ha ▸ exec_next i _
  | error r => exact ⟨_, step_access_error hp ha⟩

/-- An access at a bus address of the window steps as the one at its offset (rule R28). -/
theorem step_busAccess_inside {s : State} {addr : Nat} {off : Offset} {dir : Direction} {size : Nat}
    {rest : List Input} (hp : s.pending = .busAccess addr dir size :: rest) (h : windowOffset addr = some off) :
    step s = step { s with pending := .access ⟨dir, off, size⟩ :: rest } :=
  calc step s = step { s with pending := .busAccess addr dir size :: rest } := by rw [← hp]
    _ = step { s with pending := .access ⟨dir, off, size⟩ :: rest } :=
      step_congr_fetch (fetch_busAccess_inside dir size rest h)

theorem step_busAccess_outside {s : State} {addr : Nat} {dir : Direction} {size : Nat} {rest : List Input}
    (hp : s.pending = .busAccess addr dir size :: rest) (h : windowOffset addr = none) :
    step s = .refused (.outsideWindow addr) :=
  step_of_fetch_refuse (fetch_busAccess_outside hp h)

/-! ### The statements -/

/-- Settles O15, by the oldest pending input: no input, an access of the host in the window and a reset have a next state,
and each of the other three is refused by its own name. -/
theorem stepStopsOnlyAtRefusedInputs : Obligations.StepStopsOnlyAtRefusedInputs := by
  intro s
  match hp : s.pending with
  | [] => exact .inl ⟨s, step_of_fetch_done (fetch_of_idle hp)⟩
  | .access a :: rest => exact .inl (step_access_next hp)
  | .busAccess addr dir size :: rest =>
    cases haddr : windowOffset addr with
    | some off => exact .inl (step_busAccess_inside hp haddr ▸ step_access_next rfl)
    | none =>
      exact .inr (.inr (.inr ⟨addr, dir, size, rest, step_busAccess_outside hp haddr, rfl,
        windowOffset_eq_none_iff.1 haddr⟩))
  | .reset :: rest => exact .inl ⟨_, step_reset hp⟩
  | .otherMaster a :: rest => exact .inr (.inl ⟨step_otherMaster hp, a, rest, rfl⟩)
  | .resetInside a :: rest => exact .inr (.inr (.inl ⟨step_resetInside hp, a, rest, rfl⟩))

/-- Settles O14: the fetch refuses each of the two inputs by its name. -/
theorem secondMasterAndTornResetRefused : Obligations.SecondMasterAndTornResetRefused :=
  fun _ _ _ => ⟨step_otherMaster, step_resetInside⟩

end Sys2Proof.Machine
end

section
/-! PROOFS. Reset and hazards (70_reset_and_hazards.md): what reset leaves, what the host reads then, the Startup sequence,
and which effects a transaction sees of the ones before it. First the rules for the reset block, for a cleared frame and for
`CRC_STATE`, then the statements. -/

namespace Sys2Proof.Machine

/-! ### The reset block -/

theorem Block.reset_sample (k : Fin 6) : Block.reset.samples[k] = 0x0000#16 :=
  Vector.getElem_replicate k.isLt

theorem sampleWord_reset (k : Fin 6) : sampleWord Block.reset k = 0x00000000#32 :=
  congrArg (BitVec.setWidth 32) (Block.reset_sample k)

theorem frameWord_reset (k : Nat) : frameWord Block.reset.frame k = 0x00000000#32 := by
  simp only [frameWord, Block.reset, FrameBuffer.at_zero]
  rfl

theorem flagWord_false : flagWord false false = 0x00000000#32 := by decide

/-- CRC_RESULT reads 0 where CRC_STATE reads 0xFFFFFFFF (rule R102). -/
theorem crcResultWord_reset : crcResultWord Block.reset = 0x00000000#32 := by decide

/-! ### Self-test bytes -/

/-- A self-test byte that was clear shows the latest outcome alone in either mode (rule R106). -/
theorem selftestByte_clear (sticky pass : Bool) : selftestByte sticky pass 0x00#8 = passByte pass := by
  cases sticky <;> cases pass <;> rfl

/-- After FRAME_CLR no recorded Pass is left for BUILD to keep (rule R106). -/
theorem Block.clearFrame_build_flags (b : Block) :
    FrameBuffer.at b.clearFrame.build.frame 21 = passByte b.agPass ∧
      FrameBuffer.at b.clearFrame.build.frame 22 = passByte b.magPass := by
  simp only [Block.build_agByte, Block.build_magByte, Block.clearFrame_frame, FrameBuffer.at_zero, selftestByte_clear,
    Block.clearFrame_agPass, Block.clearFrame_magPass, and_self]

/-! ### What changes `CRC_STATE` -/

/-- An instruction keeps `CRC_STATE`, or is a bus row that sets or feeds it, or is a command by name (rules R64 to R69). -/
theorem Effect.crcState_cases {b c : Block} {i : Instr} (h : Effect b i c) :
    c.crcState = b.crcState ∨ (∃ w, i = .wrCrcState w ∨ i = .wrCrcData8 w ∨ i = .wrCrcData32 w ∨
      (i = .wrCmd w ∧ (w = 0x00000004#32 ∨ w &&& 0xFFFF00FF#32 = 0x00000005#32))) ∨
    ∃ code, encode i = .command code := by
  cases h with
  | crcState w => exact .inr (.inl ⟨w, .inl rfl⟩)
  | crcData8 w => exact .inr (.inl ⟨w, .inr (.inl rfl)⟩)
  | crcData32 w => exact .inr (.inl ⟨w, .inr (.inr (.inl rfl))⟩)
  | crcInit _ hi =>
    obtain rfl | rfl := hi
    · exact .inr (.inr ⟨_, rfl⟩)
    · exact .inr (.inl ⟨_, .inr (.inr (.inr ⟨rfl, .inl rfl⟩))⟩)
  | crcByte _ _ hi =>
    obtain rfl | ⟨w, rfl, h5, -⟩ := hi
    · exact .inr (.inr ⟨_, rfl⟩)
    · exact .inr (.inl ⟨w, .inr (.inr (.inr ⟨rfl, .inr h5⟩))⟩)
  | _ => exact .inl rfl

/-! ### The statements -/

/-- Settles O17: the first transaction of each pair leaves the block its update makes, and the second acts on that block. -/
theorem effectVisibleToNextTransaction : Obligations.EffectVisibleToNextTransaction := by
  refine fun s => ⟨?frame, fun v => ?crc, fun v => ?ctrl⟩
  case frame =>
    obtain ⟨hlow0, hhigh0⟩ := s.block.build_sample 0
    obtain ⟨hlow1, -⟩ := s.block.build_sample 1
    have lane (j : Nat) (hj : j < 4) := frameWord_lane s.block.build.frame 0 hj
    rw [run_issue_cons 1 _ rfl, run_issue_cons 0 _ rfl]
    exact ⟨_, _, rfl, rfl, (lane 0 (by decide)).trans s.block.build_marker, (lane 1 (by decide)).trans hlow0,
      (lane 2 (by decide)).trans hhigh0, (lane 3 (by decide)).trans hlow1⟩
  case crc =>
    rw [run_issue_cons 1 _ rfl, run_issue_cons 0 _ rfl]
    exact ⟨_, rfl, rfl⟩
  case ctrl =>
    rw [run_issue_cons 1 _ rfl, run_issue_cons 0 _ rfl]
    exact ⟨_, rfl, rfl⟩

/-- Settles O43: a step other than a reset changes `CRC_STATE` by the effect of the instruction it performs, and a command
reaches the block as a write to CMD. -/
theorem onlyCrcOperationsChangeCrcState : Obligations.OnlyCrcOperationsChangeCrcState := by
  intro s t h hne
  obtain hr | ⟨i, hi, heff⟩ := step_effect_of_ne h fun e => hne (by rw [e])
  · exact .inl hr
  obtain hkeep | ⟨w, hw⟩ | ⟨code, hcode⟩ := heff.crcState_cases
  · exact absurd hkeep hne
  · exact .inr ⟨w, by simpa only [hi, Option.some.injEq] using hw⟩
  · exact absurd hcode (encode_ne_command_of_nextInstr hi code)

/-- Settles O55: FRAME_CLR leaves both bytes clear, so either mode of BUILD writes the outcome there. -/
theorem frameClrBeforeBuildGivesFreshFlags : Obligations.FrameClrBeforeBuildGivesFreshFlags := by
  intro s
  obtain ⟨hag, hmag⟩ := s.block.clearFrame_build_flags
  rw [run_issue_cons 1 _ rfl, run_issue_cons 0 _ rfl]
  exact ⟨_, rfl, hag.trans (passByte_eq _), hmag.trans (passByte_eq _)⟩

/-- Settles O18: a reset between transactions leaves the reset block, and one inside a transaction is refused. -/
theorem resetSetsEveryComponent : Obligations.ResetSetsEveryComponent := by
  refine ⟨fun s rest hp => ⟨_, step_reset hp, rfl⟩, fun s a rest hp t ht => ?torn, rfl, rfl, rfl, rfl, rfl,
    Block.reset_sample, rfl, rfl, rfl, fun j => Vector.getElem_replicate j.isLt⟩
  case torn => cases (step_resetInside hp).symm.trans ht

/-- Settles O19, by the kind of register: a sample, a word of the frame, two flags, the finished CRC, and the registers that
read 0 as they stand. -/
theorem readsRightAfterReset : Obligations.ReadsRightAfterReset := by
  rintro ⟨b, pending, response⟩ hb
  obtain rfl : b = Block.reset := hb
  refine ⟨fun i hi => ?zero, rfl⟩
  case zero =>
    have answers {s : State} {v w : Word} (hexec : exec i s = .next (s.answerData v)) (hv : v = w) :
        exec i s = .next (s.answerData w) := hv ▸ hexec
    cases i with
    | rdAccX | rdAccY | rdAccZ | rdGyrX | rdGyrY | rdGyrZ => exact answers rfl (sampleWord_reset _)
    | rdFrame0 | rdFrame1 | rdFrame2 | rdFrame3 | rdFrame4 | rdFrame5 | rdFrame6 =>
      exact answers rfl (frameWord_reset _)
    | rdCtrl | rdErr | rdSelftest => exact answers rfl flagWord_false
    | rdCrcResult => exact answers rfl crcResultWord_reset
    | rdFrameLen | rdCmd | rdCrcData8 | rdCrcData32 => rfl
    | _ => simp at hi

/-- Settles O57: PROBE sets `LEN` to 1 and byte 0 to 0xAA, and the reads leave both. -/
theorem startupProbeSequence : Obligations.StartupProbeSequence := by
  intro s
  have lane := frameWord_lane s.block.probe.frame 0 (j := 0) (by decide)
  rw [run_issue_cons 1 _ rfl, run_issue_cons 0 _ rfl, run_issue_cons 2 _ rfl, run_issue_cons 1 _ rfl,
    run_issue_cons 0 _ rfl]
  exact ⟨_, _, _, rfl, rfl, rfl, rfl, lane.trans (FrameBuffer.at_put_same _ _ _ (by decide))⟩

end Sys2Proof.Machine
end
